-- ==== Sys2Proof/Word.lean ====
section
/-! DEFINITION. The word types of the two serial lines, and text. -/

namespace Sys2Proof

/-- One byte of the host line, or one character of the printer line (R169, R195). -/
abbrev Byte := BitVec 8

/-- A text field: its characters in order (R195). -/
abbrev Text := List Byte

/-- A printable character, 0x20 to 0x7E (R195). -/
abbrev Byte.printable (b : Byte) : Prop := 0x20 ≤ b.toNat ∧ b.toNat ≤ 0x7E

/-- Text of printable characters whose length lies within `lo..hi`. -/
abbrev Text.printableWithin (t : Text) (lo hi : Nat) : Prop :=
  lo ≤ t.length ∧ t.length ≤ hi ∧ ∀ c ∈ t, Byte.printable c

end Sys2Proof
end

