-- ==== Sys2Proof/Config.lean ====
section
/-! DEFINITION. The capacities and durations the manual fixes, and the free values: constants with no body, which no
proof can evaluate, for what the manual leaves open. -/

namespace Sys2Proof.Config

/-- Orders the order table holds (R1). -/
def maxOrders : Nat := 32
/-- Items the shared pool holds (R2). -/
def maxItems : Nat := 384
/-- Items one order holds (R1). -/
def maxItemsPerOrder : Nat := 24
/-- Rolls the roll table holds (R94). -/
def maxRolls : Nat := 8
/-- Records the frame table holds (R103). -/
def maxFrames : Nat := 1024
/-- Entries and reserved slots the journal holds together (R135). -/
def maxJournal : Nat := 256
/-- Entry count at which JOURNAL_HIGH is queued (R141). -/
def journalHighMark : Nat := 192
/-- Jobs the label queue holds (R149). -/
def maxJobs : Nat := 96
/-- Notices the notice queue holds (R200). -/
def maxNotices : Nat := 32
/-- Replies the reply list holds (R197). -/
def maxReplies : Nat := 8
/-- Capacity of the heat account in heat units (R78). -/
def maxHeat : Nat := 512
/-- Highest value of the day clock, 23:59 on 31 December 2099 (R145). -/
def maxMinutes : Nat := 52595999
/-- Value of the arrival counter that makes a submit renumber first (R5). -/
def maxArrival : Nat := 4294967295
/-- Value of the next sequence number at which every number has been given (R136). -/
def maxSequence : Nat := 4294967296
/-- Characters of a composed label line (R164). -/
def lineWidth : Nat := 24

/-- Durations in milliseconds (R75, R77 to R79, R98, R101, R145, R174, R180, R196). -/
def chargeTimeout : Nat := 6000
def flashWindow : Nat := 20
def idleTimeout : Nat := 900000
def coolingInterval : Nat := 125
def advanceTimeout : Nat := 1500
def rewindTimeout : Nat := 60000
def minuteInterval : Nat := 60000
def printerTimeout : Nat := 10000
def statusWait : Nat := 10000
def gapTimeout : Nat := 50

/-- Silicon revision reported by IDENT, 1 for the parts the manual describes (R201). -/
def siliconRevision : Nat := 1

/-- FREE VALUE (log entry 7): the order in which start-up notices of different blocks stand (R204). -/
opaque freeStartOrder : Nat → Nat

/-- FREE VALUE (log entry 8): what a money sum of R121 holds after it has left its 48-bit range. -/
opaque freeMoney : Nat → BitVec 48

/-- Payload bytes of a host-link frame (R195). -/
def maxPayload : Nat := 248

/-- FREE VALUE (log entry 29): the bytes that stand in a frame for fields that R195 encodes in more than the frame holds. -/
opaque freePayload : List Byte → List Byte

/-- FREE VALUE (log entry 9): the template id read through a frame whose order is gone. -/
opaque freeTemplate : Nat → BitVec 8

/-- FREE VALUE (log entry 9): the account slot, less one, read through a frame whose order is gone. -/
opaque freeAccount : Nat → BitVec 6

end Sys2Proof.Config
end

