-- ==== Sys2Proof/Syntax.lean ====
section
/-! DEFINITION. The commands: one constructor of `Instr` per row of spec/opcode_table.json, with the row's operands. A
host request carries its tag and its payload; the other commands are events at the part's lines and timers. -/

namespace Sys2Proof

/-- The three copying positions; on the host link A is 0, B is 1 and D is 2. -/
inductive Station | a | b | d
deriving DecidableEq, Repr

/-- Station preference of an order (R1, R7). -/
inductive Preference | any | column | a | b | d
deriving DecidableEq, Repr

/-- Bracket sequence (R1, R25). -/
inductive Sequence | centreFirst | ascending
deriving DecidableEq, Repr

/-- Type of a camera back (R20). -/
inductive BackType | cassette | bulk
deriving DecidableEq, Repr

/-- Rounding mode of the power level (R20, R60). -/
inductive Rounding | nearestEven | moreLight | lessLight
deriving DecidableEq, Repr

/-- Foot-switch edge (R20, R32). -/
inductive Edge | press | release
deriving DecidableEq, Repr

/-- Door position, as the door switch reports it (R110). -/
inductive Door | opened | closed
deriving DecidableEq, Repr

/-- One action of a CULL list (R112). -/
inductive CullAction | none | keep | discard | leave
deriving DecidableEq, Repr

/-- The eight fields a template piece may name (R155). -/
inductive LabelField | call | title | note | lecturer | account | date | frameCode | bracketMark
deriving DecidableEq, Repr

/-- A piece of a template line (R155). -/
inductive Piece
  | literal (text : Text)
  | field (f : LabelField)
deriving DecidableEq, Repr

/-- A printer's fault code, 'N', 'J' or 'H' (R169). -/
inductive PrinterCode | noStock | jam | head
deriving DecidableEq, Repr

/-- Station settings record (R20). -/
structure Settings where
  back : BackType
  calibration : Int
  magnification : Nat
  filter1 : Nat
  filter2 : Nat
  filter3 : Nat
  filter4 : Nat
  rounding : Rounding
  separator : Bool
  footEnabled : Bool
  footEdge : Edge
  early : Bool
deriving DecidableEq, Repr

/-- Bracket pattern of an order: count B, step s, sequence (R1). -/
structure Bracket where
  count : Nat
  step : Nat
  sequence : Sequence
deriving DecidableEq, Repr

/-- The payload of a request frame as R197 step 3 sees it: the request's fields, or a payload that does not have the
length its fields occupy, or that holds a presence, flag or enumerated byte outside its set. -/
inductive Payload (α : Type) where
  | fields (a : α)
  | malformed
deriving DecidableEq, Repr

/-- Fields of ORDER_OPEN (R3). -/
structure OrderOpenReq where
  order : Nat
  account : Nat
  cls : Nat
  preference : Preference
  stock : Nat
  bracket : Bracket
  template : Nat
  lecturer : Text
deriving DecidableEq, Repr

/-- Fields of ITEM_ADD (R4). -/
structure ItemAddReq where
  order : Nat
  offset : Int
  filter : Nat
  copies : Nat
  callNumber : Text
  title : Option Text
  note : Option Text
deriving DecidableEq, Repr

/-- Fields of a request that carries an order id alone (R5, R12, R13, R15, R17). -/
structure OrderReq where
  order : Nat
deriving DecidableEq, Repr

/-- Fields of ORDER_PRIORITY (R14). -/
structure OrderPriorityReq where
  order : Nat
  cls : Nat
deriving DecidableEq, Repr

/-- Fields of ITEM_READ (R18). -/
structure ItemReq where
  order : Nat
  item : Nat
deriving DecidableEq, Repr

/-- Fields of STATION_SET (R21). -/
structure StationSetReq where
  station : Nat
  settings : Settings
deriving DecidableEq, Repr

/-- Fields of a request that carries a station number alone. -/
structure StationReq where
  station : Nat
deriving DecidableEq, Repr

/-- Fields of PLAN_QUERY in the DIRECT form (R68). -/
structure PlanDirectReq where
  calibration : Int
  subject : Int
  speed : Int
  filter : Nat
  magnification : Nat
  offset : Int
  rounding : Rounding
deriving DecidableEq, Repr

/-- Fields of PLAN_QUERY in the STATION form (R69). -/
structure PlanStationReq where
  station : Nat
  stock : Nat
  filter : Nat
  subject : Int
  offset : Int
deriving DecidableEq, Repr

/-- Fields of PLAN_QUERY in the ITEM form (R70). -/
structure PlanItemReq where
  station : Nat
  order : Nat
  item : Nat
deriving DecidableEq, Repr

/-- Fields of STOCK_SET with a speed and a name (R93). -/
structure StockSetReq where
  code : Nat
  speed : Int
  name : Text
deriving DecidableEq, Repr

/-- Fields of STOCK_SET with the REMOVE indication (R93). -/
structure StockReq where
  code : Nat
deriving DecidableEq, Repr

/-- Fields of LOAD (R97). -/
structure LoadReq where
  station : Nat
  stock : Nat
deriving DecidableEq, Repr

/-- Fields of FRAME_READ (R111). -/
structure FrameReadReq where
  roll : Nat
  first : Nat
  count : Nat
deriving DecidableEq, Repr

/-- Fields of CULL (R112). -/
structure CullReq where
  roll : Nat
  first : Nat
  actions : List CullAction
deriving DecidableEq, Repr

/-- Fields of CLOSE_ROLL (R114). -/
structure CloseRollReq where
  roll : Nat
  force : Bool
deriving DecidableEq, Repr

/-- Fields of TARIFF_SET (R119). -/
structure TariffSetReq where
  cls : Nat
  centre : Nat
  bracket : Nat
  copy : Nat
  mount : Nat
deriving DecidableEq, Repr

/-- Fields of ACCOUNT_SET (R123). -/
structure AccountSetReq where
  slot : Nat
  name : Text
  cls : Nat
  limit : Nat
deriving DecidableEq, Repr

/-- Fields of a request that carries an account slot alone (R124, R125). -/
structure AccountReq where
  slot : Nat
deriving DecidableEq, Repr

/-- Fields of ADJUST (R131). -/
structure AdjustReq where
  slot : Nat
  amount : Int
deriving DecidableEq, Repr

/-- Fields of JOURNAL_READ (R142). -/
structure JournalReadReq where
  count : Nat
deriving DecidableEq, Repr

/-- Fields of JOURNAL_RELEASE (R143). -/
structure JournalReleaseReq where
  number : Nat
deriving DecidableEq, Repr

/-- Fields of CLOCK_SET (R146). -/
structure ClockSetReq where
  value : Nat
deriving DecidableEq, Repr

/-- Fields of LABEL_ROLL and LABEL_CANCEL (R151, R153). -/
structure RollReq where
  roll : Nat
deriving DecidableEq, Repr

/-- Fields of LABEL_FRAME (R152). -/
structure LabelFrameReq where
  roll : Nat
  frame : Nat
  charge : Bool
deriving DecidableEq, Repr

/-- Fields of LABEL_READ (R154). -/
structure LabelReadReq where
  first : Nat
  count : Nat
deriving DecidableEq, Repr

/-- Fields of TEMPLATE_LOAD (R155, R157). -/
structure TemplateLoadReq where
  template : Nat
  lines : List (List Piece)
deriving DecidableEq, Repr

/-- Fields of a request that carries a template id alone (R158 to R161). -/
structure TemplateReq where
  template : Nat
deriving DecidableEq, Repr

/-- Fields of PRINTER_SET (R172). -/
structure PrinterSetReq where
  enable : Bool
  window : Nat
deriving DecidableEq, Repr

/-- Fields of PRINTER_STATUS (R182). -/
structure PrinterStatusReq where
  ask : Bool
deriving DecidableEq, Repr

/-- Fields of FAULT_READ and FAULT_CLEAR (R188, R189). -/
structure UnitReq where
  unit : Nat
deriving DecidableEq, Repr

/-- A character on the host line: a byte, or a bad character (a stop bit found low, R194). -/
inductive HostChar
  | byte (b : Byte)
  | bad
deriving DecidableEq, Repr

/-- A character on the printer line, and whether its parity was in error (R169, R170). -/
structure PrinterChar where
  char : Byte
  parityError : Bool
deriving DecidableEq, Repr

/-- What the part reads from its pins at a reset by supply or reset line: the backup-supply monitor (R203), the straps
(R194), the door switches (R110) and the generator's ready input (R74). -/
structure ResetPins where
  retentionHeld : Bool
  strap1 : Bool
  strap2 : Bool
  doorA : Door
  doorB : Door
  doorD : Door
  readyInput : Bool
deriving DecidableEq, Repr

/-- The commands of the part, one constructor per row of spec/opcode_table.json. -/
inductive Instr
  -- requests of the order manager
  | orderOpen (tag : Byte) (p : Payload OrderOpenReq)
  | itemAdd (tag : Byte) (p : Payload ItemAddReq)
  | orderSubmit (tag : Byte) (p : Payload OrderReq)
  | hold (tag : Byte) (p : Payload OrderReq)
  | release (tag : Byte) (p : Payload OrderReq)
  | orderPriority (tag : Byte) (p : Payload OrderPriorityReq)
  | orderCancel (tag : Byte) (p : Payload OrderReq)
  | orderRead (tag : Byte) (p : Payload OrderReq)
  | itemRead (tag : Byte) (p : Payload ItemReq)
  -- requests of the station sequencers
  | stationSet (tag : Byte) (p : Payload StationSetReq)
  | stationRead (tag : Byte) (p : Payload StationReq)
  | placed (tag : Byte) (p : Payload StationReq)
  | inputTake (tag : Byte) (p : Payload StationReq)
  | skipItem (tag : Byte) (p : Payload StationReq)
  | abort (tag : Byte) (p : Payload StationReq)
  -- PLAN_QUERY in its three forms
  | planQueryDirect (tag : Byte) (p : Payload PlanDirectReq)
  | planQueryStation (tag : Byte) (p : Payload PlanStationReq)
  | planQueryItem (tag : Byte) (p : Payload PlanItemReq)
  -- requests of the generator controller
  | genRead (tag : Byte) (p : Payload Unit)
  | genClear (tag : Byte) (p : Payload Unit)
  -- requests of the roll manager
  | stockSet (tag : Byte) (p : Payload StockSetReq)
  | stockSetRemove (tag : Byte) (p : Payload StockReq)
  | stockRead (tag : Byte) (p : Payload Unit)
  | load (tag : Byte) (p : Payload LoadReq)
  | unloadEarly (tag : Byte) (p : Payload StationReq)
  | frameRead (tag : Byte) (p : Payload FrameReadReq)
  | cull (tag : Byte) (p : Payload CullReq)
  | closeRoll (tag : Byte) (p : Payload CloseRollReq)
  | confirmRoll (tag : Byte) (p : Payload StationReq)
  | declareUnloaded (tag : Byte) (p : Payload StationReq)
  -- requests of the account unit
  | tariffSet (tag : Byte) (p : Payload TariffSetReq)
  | tariffRead (tag : Byte) (p : Payload Unit)
  | accountSet (tag : Byte) (p : Payload AccountSetReq)
  | accountClear (tag : Byte) (p : Payload AccountReq)
  | accountRead (tag : Byte) (p : Payload AccountReq)
  | adjust (tag : Byte) (p : Payload AdjustReq)
  -- requests of the journal and the day clock
  | journalRead (tag : Byte) (p : Payload JournalReadReq)
  | journalRelease (tag : Byte) (p : Payload JournalReleaseReq)
  | clockSet (tag : Byte) (p : Payload ClockSetReq)
  | clockRead (tag : Byte) (p : Payload Unit)
  -- requests of the label composer
  | labelRoll (tag : Byte) (p : Payload RollReq)
  | labelFrame (tag : Byte) (p : Payload LabelFrameReq)
  | labelCancel (tag : Byte) (p : Payload RollReq)
  | labelRead (tag : Byte) (p : Payload LabelReadReq)
  | templateLoad (tag : Byte) (p : Payload TemplateLoadReq)
  | templateLock (tag : Byte) (p : Payload TemplateReq)
  | templateUnlock (tag : Byte) (p : Payload TemplateReq)
  | templateDrop (tag : Byte) (p : Payload TemplateReq)
  | templateRead (tag : Byte) (p : Payload TemplateReq)
  -- requests of the printer link, of fault capture and of the link controller
  | printerSet (tag : Byte) (p : Payload PrinterSetReq)
  | printerStatus (tag : Byte) (p : Payload PrinterStatusReq)
  | faultRead (tag : Byte) (p : Payload UnitReq)
  | faultClear (tag : Byte) (p : Payload UnitReq)
  | ident (tag : Byte) (p : Payload Unit)
  | status (tag : Byte) (p : Payload Unit)
  | standReset (tag : Byte) (p : Payload Unit)
  -- the rest of the host link, and the reset
  | unknownKind (tag kind : Byte)
  | hostBadFrame (chars : List HostChar)
  | interByteGap
  | frameSent
  | reset (pins : ResetPins)
  -- station lines and drive timers
  | footSwitchEdge (st : Station) (edge : Edge)
  | doorOpened (st : Station)
  | doorClosed (st : Station)
  | sprocketPulse (st : Station)
  | advanceTimeout (st : Station)
  | endOfFilmSensor (st : Station)
  | rewindDone (st : Station)
  | rewindTimerExpiry (st : Station)
  -- generator lines and timers, and the minute timer
  | readyInputRise
  | readyInputFall
  | flashSensorReport
  | flashConfirmWindowExpiry
  | chargeTimerExpiry
  | idleDischarge
  | cooling
  | minuteTimerExpiry
  -- the printer line and its timers; a sequence number is the one its sequence character stands for
  | printerDone (seq : Fin 16)
  | printerFault (seq : Fin 16) (code : PrinterCode) (named : Fin 16)
  | printerReady (seq : Fin 16)
  | badFrame (chars : List PrinterChar)
  | printerTimerExpiry
  | statusWaitExpiry
  -- the journal's waiting writers, after a room report
  | stationSlotRequest (st : Station)
  | printerSlotRequest
deriving DecidableEq, Repr

end Sys2Proof
end

