-- ==== Sys2Proof/WellFormed.lean ====
section
/-! DEFINITION. Which commands a frame or an event at the part's lines can spell: a request whose tag is not 0 and whose
fields fit the bytes R195 gives them. Range checks of the requests themselves are the owners' (BAD_FIELD, a reply), not
made here. -/

namespace Sys2Proof

/-- A number that fits `bytes` bytes (R195). -/
abbrev fitsNat (bytes n : Nat) : Prop := n < 256 ^ bytes

/-- A signed number that fits `bytes` bytes in two's complement (R195). -/
abbrev fitsInt (bytes : Nat) (z : Int) : Prop := -(128 * 256 ^ (bytes - 1)) ≤ z ∧ z < 128 * 256 ^ (bytes - 1)

/-- Text whose count fits its count byte (R195). -/
abbrev fitsText (t : Text) : Prop := t.length < 256

/-- A payload that a frame can carry (R195). -/
abbrev carried (bytes : Nat) : Prop := bytes ≤ 248

abbrev Bracket.fits (b : Bracket) : Prop := fitsNat 1 b.count ∧ fitsNat 1 b.step

abbrev Settings.fits (x : Settings) : Prop :=
  fitsInt 1 x.calibration ∧ fitsNat 2 x.magnification ∧ fitsNat 1 x.filter1 ∧ fitsNat 1 x.filter2 ∧
  fitsNat 1 x.filter3 ∧ fitsNat 1 x.filter4

abbrev OrderOpenReq.fits (f : OrderOpenReq) : Prop :=
  fitsNat 2 f.order ∧ fitsNat 1 f.account ∧ fitsNat 1 f.cls ∧ fitsNat 1 f.stock ∧ f.bracket.fits ∧
  fitsNat 1 f.template ∧ fitsText f.lecturer ∧ carried (11 + f.lecturer.length)

/-- Bytes of an optional text (R195). -/
def optionalTextBytes : Option Text → Nat
  | none => 1
  | some t => 2 + t.length

abbrev ItemAddReq.fits (f : ItemAddReq) : Prop :=
  fitsNat 2 f.order ∧ fitsInt 2 f.offset ∧ fitsNat 1 f.filter ∧ fitsNat 1 f.copies ∧ fitsText f.callNumber ∧
  (∀ t ∈ f.title, fitsText t) ∧ (∀ t ∈ f.note, fitsText t) ∧
  carried (7 + f.callNumber.length + optionalTextBytes f.title + optionalTextBytes f.note)

/-- A literal or a field of a template, as a frame can carry it. -/
def Piece.fits : Piece → Bool
  | .literal t => decide (fitsText t)
  | .field _ => true

/-- Bytes of a piece: its kind byte, then the text or the field's number (R195, log entry 12). -/
def Piece.bytes : Piece → Nat
  | .literal t => 2 + t.length
  | .field _ => 2

/-- Bytes of a template: its id, its line count and its lines, each its piece count and its pieces (R195, log entry 12). -/
def TemplateLoadReq.bytes (f : TemplateLoadReq) : Nat :=
  2 + (f.lines.map fun l => 1 + (l.map Piece.bytes).sum).sum

/-- A template's lines, as a frame can carry them (R155, R195). -/
abbrev TemplateLoadReq.fits (f : TemplateLoadReq) : Prop :=
  fitsNat 1 f.template ∧ f.lines.length < 256 ∧ (∀ l ∈ f.lines, l.length < 256 ∧ ∀ p ∈ l, p.fits = true) ∧
  carried f.bytes

/-- The payload's fields fit their bytes; a malformed payload is one a frame can carry. -/
def Payload.all {α : Type} (p : Payload α) (ok : α → Bool) : Bool :=
  match p with
  | .fields a => ok a
  | .malformed => true

/-- A request's tag is 1..255 (R197). -/
abbrev tagged (tag : Byte) : Bool := decide (tag ≠ 0)

/-- The commands that frames and events can spell. -/
def Instr.wellFormed : Instr → Bool
  | .orderOpen t p => tagged t && p.all fun f => decide f.fits
  | .itemAdd t p => tagged t && p.all fun f => decide f.fits
  | .orderSubmit t p => tagged t && p.all fun f => decide (fitsNat 2 f.order)
  | .hold t p => tagged t && p.all fun f => decide (fitsNat 2 f.order)
  | .release t p => tagged t && p.all fun f => decide (fitsNat 2 f.order)
  | .orderPriority t p => tagged t && p.all fun f => decide (fitsNat 2 f.order ∧ fitsNat 1 f.cls)
  | .orderCancel t p => tagged t && p.all fun f => decide (fitsNat 2 f.order)
  | .orderRead t p => tagged t && p.all fun f => decide (fitsNat 2 f.order)
  | .itemRead t p => tagged t && p.all fun f => decide (fitsNat 2 f.order ∧ fitsNat 1 f.item)
  | .stationSet t p => tagged t && p.all fun f => decide (fitsNat 1 f.station ∧ f.settings.fits)
  | .stationRead t p => tagged t && p.all fun f => decide (fitsNat 1 f.station)
  | .placed t p => tagged t && p.all fun f => decide (fitsNat 1 f.station)
  | .inputTake t p => tagged t && p.all fun f => decide (fitsNat 1 f.station)
  | .skipItem t p => tagged t && p.all fun f => decide (fitsNat 1 f.station)
  | .abort t p => tagged t && p.all fun f => decide (fitsNat 1 f.station)
  | .planQueryDirect t p => tagged t && p.all fun f => decide (fitsInt 1 f.calibration ∧ fitsInt 1 f.subject ∧
      fitsInt 1 f.speed ∧ fitsNat 1 f.filter ∧ fitsNat 2 f.magnification ∧ fitsInt 1 f.offset)
  | .planQueryStation t p => tagged t && p.all fun f => decide (fitsNat 1 f.station ∧ fitsNat 1 f.stock ∧
      fitsNat 1 f.filter ∧ fitsInt 1 f.subject ∧ fitsInt 1 f.offset)
  | .planQueryItem t p => tagged t && p.all fun f => decide (fitsNat 1 f.station ∧ fitsNat 2 f.order ∧ fitsNat 1 f.item)
  | .genRead t _ => tagged t
  | .genClear t _ => tagged t
  | .stockSet t p => tagged t && p.all fun f => decide (fitsNat 1 f.code ∧ fitsInt 1 f.speed ∧ fitsText f.name ∧
      carried (4 + f.name.length))
  | .stockSetRemove t p => tagged t && p.all fun f => decide (fitsNat 1 f.code)
  | .stockRead t _ => tagged t
  | .load t p => tagged t && p.all fun f => decide (fitsNat 1 f.station ∧ fitsNat 1 f.stock)
  | .unloadEarly t p => tagged t && p.all fun f => decide (fitsNat 1 f.station)
  | .frameRead t p => tagged t && p.all fun f => decide (fitsNat 2 f.roll ∧ fitsNat 1 f.first ∧ fitsNat 1 f.count)
  | .cull t p => tagged t && p.all fun f => decide (fitsNat 2 f.roll ∧ fitsNat 1 f.first ∧ carried (4 + f.actions.length))
  | .closeRoll t p => tagged t && p.all fun f => decide (fitsNat 2 f.roll)
  | .confirmRoll t p => tagged t && p.all fun f => decide (fitsNat 1 f.station)
  | .declareUnloaded t p => tagged t && p.all fun f => decide (fitsNat 1 f.station)
  | .tariffSet t p => tagged t && p.all fun f => decide (fitsNat 1 f.cls ∧ fitsNat 2 f.centre ∧ fitsNat 2 f.bracket ∧
      fitsNat 2 f.copy ∧ fitsNat 2 f.mount)
  | .tariffRead t _ => tagged t
  | .accountSet t p => tagged t && p.all fun f => decide (fitsNat 1 f.slot ∧ fitsText f.name ∧ fitsNat 1 f.cls ∧
      fitsNat 4 f.limit ∧ carried (7 + f.name.length))
  | .accountClear t p => tagged t && p.all fun f => decide (fitsNat 1 f.slot)
  | .accountRead t p => tagged t && p.all fun f => decide (fitsNat 1 f.slot)
  | .adjust t p => tagged t && p.all fun f => decide (fitsNat 1 f.slot ∧ fitsInt 3 f.amount)
  | .journalRead t p => tagged t && p.all fun f => decide (fitsNat 1 f.count)
  | .journalRelease t p => tagged t && p.all fun f => decide (fitsNat 4 f.number)
  | .clockSet t p => tagged t && p.all fun f => decide (fitsNat 4 f.value)
  | .clockRead t _ => tagged t
  | .labelRoll t p => tagged t && p.all fun f => decide (fitsNat 2 f.roll)
  | .labelFrame t p => tagged t && p.all fun f => decide (fitsNat 2 f.roll ∧ fitsNat 1 f.frame)
  | .labelCancel t p => tagged t && p.all fun f => decide (fitsNat 2 f.roll)
  | .labelRead t p => tagged t && p.all fun f => decide (fitsNat 1 f.first ∧ fitsNat 1 f.count)
  | .templateLoad t p => tagged t && p.all fun f => decide f.fits
  | .templateLock t p => tagged t && p.all fun f => decide (fitsNat 1 f.template)
  | .templateUnlock t p => tagged t && p.all fun f => decide (fitsNat 1 f.template)
  | .templateDrop t p => tagged t && p.all fun f => decide (fitsNat 1 f.template)
  | .templateRead t p => tagged t && p.all fun f => decide (fitsNat 1 f.template)
  | .printerSet t p => tagged t && p.all fun f => decide (fitsNat 1 f.window)
  | .printerStatus t _ => tagged t
  | .faultRead t p => tagged t && p.all fun f => decide (fitsNat 1 f.unit)
  | .faultClear t p => tagged t && p.all fun f => decide (fitsNat 1 f.unit)
  | .ident t _ => tagged t
  | .status t _ => tagged t
  | .standReset t _ => tagged t
  | .unknownKind t kind => tagged t && decide (kind = 0 ∨ 53 < kind.toNat)
  | .hostBadFrame _ => true
  | .interByteGap => true
  | .frameSent => true
  | .reset _ => true
  | .footSwitchEdge _ _ => true
  | .doorOpened _ => true
  | .doorClosed _ => true
  | .sprocketPulse _ => true
  | .advanceTimeout _ => true
  | .endOfFilmSensor _ => true
  | .rewindDone _ => true
  | .rewindTimerExpiry _ => true
  | .readyInputRise => true
  | .readyInputFall => true
  | .flashSensorReport => true
  | .flashConfirmWindowExpiry => true
  | .chargeTimerExpiry => true
  | .idleDischarge => true
  | .cooling => true
  | .minuteTimerExpiry => true
  | .printerDone _ => true
  | .printerFault _ _ _ => true
  | .printerReady _ => true
  | .badFrame _ => true
  | .printerTimerExpiry => true
  | .statusWaitExpiry => true
  | .stationSlotRequest _ => true
  | .printerSlotRequest => true

end Sys2Proof
end

