-- ==== Sys2Proof/Decode.lean ====
section
/-! DEFINITION. The host link's frames: the check (R195), the receiver (R196), the request kinds (R202), and the decoding
of a request frame's payload into its command (R195, R197), with the encoder of a request's payload after it. The table of
commands gives its rows no bits, so `decodeTableWord` spells none of them. -/

namespace Sys2Proof

/-! ### Request kinds (R202) -/

/-- The request kinds, in the order of R202. -/
inductive RequestKind
  | orderOpen | itemAdd | orderSubmit | hold | release | orderPriority | orderCancel | orderRead | itemRead
  | stationSet | stationRead | placed | inputTake | skipItem | abort | planQuery | genRead | genClear
  | stockSet | stockRead | load | unloadEarly | frameRead | cull | closeRoll | confirmRoll | declareUnloaded
  | tariffSet | tariffRead | accountSet | accountClear | accountRead | adjust
  | journalRead | journalRelease | clockSet | clockRead
  | labelRoll | labelFrame | labelCancel | labelRead | templateLoad | templateLock | templateUnlock | templateDrop
  | templateRead | printerSet | printerStatus | faultRead | faultClear | ident | status | standReset
deriving DecidableEq, Repr

/-- The kind byte of a request and of its reply (R202). -/
def RequestKind.code : RequestKind → Byte
  | .orderOpen => 1 | .itemAdd => 2 | .orderSubmit => 3 | .hold => 4 | .release => 5 | .orderPriority => 6
  | .orderCancel => 7 | .orderRead => 8 | .itemRead => 9 | .stationSet => 10 | .stationRead => 11 | .placed => 12
  | .inputTake => 13 | .skipItem => 14 | .abort => 15 | .planQuery => 16 | .genRead => 17 | .genClear => 18
  | .stockSet => 19 | .stockRead => 20 | .load => 21 | .unloadEarly => 22 | .frameRead => 23 | .cull => 24
  | .closeRoll => 25 | .confirmRoll => 26 | .declareUnloaded => 27 | .tariffSet => 28 | .tariffRead => 29
  | .accountSet => 30 | .accountClear => 31 | .accountRead => 32 | .adjust => 33 | .journalRead => 34
  | .journalRelease => 35 | .clockSet => 36 | .clockRead => 37 | .labelRoll => 38 | .labelFrame => 39
  | .labelCancel => 40 | .labelRead => 41 | .templateLoad => 42 | .templateLock => 43 | .templateUnlock => 44
  | .templateDrop => 45 | .templateRead => 46 | .printerSet => 47 | .printerStatus => 48 | .faultRead => 49
  | .faultClear => 50 | .ident => 51 | .status => 52 | .standReset => 53

/-! ### Fields of a payload (R195) -/

/-- The low `w` bytes of a number, high byte first. -/
def putNat : Nat → Nat → List Byte
  | 0, _ => []
  | w + 1, n => BitVec.ofNat 8 (n / 256 ^ w) :: putNat w n

/-- The number that bytes stand for, high byte first. -/
def natOfBytes (bs : List Byte) : Nat := bs.foldl (fun n b => 256 * n + b.toNat) 0

/-- A signed number in two's complement of `w` bytes. -/
def putInt (w : Nat) (z : Int) : List Byte := putNat w (z % (256 ^ w : Nat)).toNat

/-- A byte that stands for an index of a table of names: the enumerated values of R195. -/
def putEnum {α : Type} [DecidableEq α] (names : List α) (a : α) : List Byte := [BitVec.ofNat 8 (names.idxOf a)]

/-- A flag or an indication: one byte, 0 or 1. -/
def putFlag (b : Bool) : List Byte := [if b then 1 else 0]

/-- A text: its count byte and its characters. -/
def putText (t : Text) : List Byte := BitVec.ofNat 8 t.length :: t

/-- An optional field: its presence byte, and the field when it is present. -/
def putOption {α : Type} (put : α → List Byte) : Option α → List Byte
  | none => [0]
  | some a => 1 :: put a

/-- A list: its count byte and its entries. -/
def putList {α : Type} (put : α → List Byte) (l : List α) : List Byte := BitVec.ofNat 8 l.length :: l.flatMap put

/-- What reads a field from the front of the bytes: the field and the bytes after it. -/
abbrev Reader (α : Type) := List Byte → Option (α × List Byte)

def getNat (w : Nat) : Reader Nat := fun bs =>
  if bs.length < w then none else some (natOfBytes (bs.take w), bs.drop w)

def getInt (w : Nat) : Reader Int := fun bs =>
  match getNat w bs with
  | some (n, rest) => some (if n < 128 * 256 ^ (w - 1) then n else (n : Int) - (256 ^ w : Nat), rest)
  | none => none

def getEnum {α : Type} (names : List α) : Reader α
  | [] => none
  | b :: rest => match names[b.toNat]? with
    | some a => some (a, rest)
    | none => none

def getFlag : Reader Bool
  | [] => none
  | b :: rest => if b = 0 then some (false, rest) else if b = 1 then some (true, rest) else none

def getText : Reader Text
  | [] => none
  | b :: rest => if rest.length < b.toNat then none else some (rest.take b.toNat, rest.drop b.toNat)

def getOption {α : Type} (get : Reader α) : Reader (Option α)
  | [] => none
  | b :: rest =>
    if b = 0 then some (none, rest)
    else if b = 1 then match get rest with
      | some (a, r) => some (some a, r)
      | none => none
    else none

def getMany {α : Type} (get : Reader α) : Nat → Reader (List α)
  | 0, bs => some ([], bs)
  | n + 1, bs => match get bs with
    | some (a, rest) => match getMany get n rest with
      | some (l, r) => some (a :: l, r)
      | none => none
    | none => none

def getList {α : Type} (get : Reader α) : Reader (List α)
  | [] => none
  | b :: rest => getMany get b.toNat rest

/-- A whole payload read by a reader: R197 step 3 answers BAD_FIELD where it does not fit. -/
def readWhole {α : Type} (get : Reader α) (bs : List Byte) : Payload α :=
  match get bs with
  | some (a, []) => .fields a
  | _ => .malformed

/-! ### The enumerated values, in the order the manual lists them -/

def stationNames : List Station := [.a, .b, .d]
def preferenceNames : List Preference := [.any, .column, .a, .b, .d]
def sequenceNames : List Sequence := [.centreFirst, .ascending]
def backNames : List BackType := [.cassette, .bulk]
def roundingNames : List Rounding := [.nearestEven, .moreLight, .lessLight]
def edgeNames : List Edge := [.press, .release]
def cullNames : List CullAction := [.none, .keep, .discard, .leave]
def labelFieldNames : List LabelField :=
  [.call, .title, .note, .lecturer, .account, .date, .frameCode, .bracketMark]

/-! ### The payloads of the requests -/

def putBracket (b : Bracket) : List Byte := putNat 1 b.count ++ putNat 1 b.step ++ putEnum sequenceNames b.sequence

/-- Every field of R20 in its order. The four filter corrections stand as four bytes with no count byte before them: the manual
fixes their number, and does not say whether R195's list or four fields are meant. That is the model's choice (log entry 12). -/
def putSettings (x : Settings) : List Byte :=
  putEnum backNames x.back ++ putInt 1 x.calibration ++ putNat 2 x.magnification ++ putNat 1 x.filter1 ++
  putNat 1 x.filter2 ++ putNat 1 x.filter3 ++ putNat 1 x.filter4 ++ putEnum roundingNames x.rounding ++
  putFlag x.separator ++ putFlag x.footEnabled ++ putEnum edgeNames x.footEdge ++ putFlag x.early

def getBracket : Reader Bracket := fun bs => do
  let (count, bs) ← getNat 1 bs
  let (step, bs) ← getNat 1 bs
  let (sequence, bs) ← getEnum sequenceNames bs
  return ({ count, step, sequence }, bs)

def getSettings : Reader Settings := fun bs => do
  let (back, bs) ← getEnum backNames bs
  let (calibration, bs) ← getInt 1 bs
  let (magnification, bs) ← getNat 2 bs
  let (filter1, bs) ← getNat 1 bs
  let (filter2, bs) ← getNat 1 bs
  let (filter3, bs) ← getNat 1 bs
  let (filter4, bs) ← getNat 1 bs
  let (rounding, bs) ← getEnum roundingNames bs
  let (separator, bs) ← getFlag bs
  let (footEnabled, bs) ← getFlag bs
  let (footEdge, bs) ← getEnum edgeNames bs
  let (early, bs) ← getFlag bs
  return ({ back, calibration, magnification, filter1, filter2, filter3, filter4, rounding, separator, footEnabled,
            footEdge, early }, bs)

def putOrderOpen (f : OrderOpenReq) : List Byte :=
  putNat 2 f.order ++ putNat 1 f.account ++ putNat 1 f.cls ++ putEnum preferenceNames f.preference ++
  putNat 1 f.stock ++ putBracket f.bracket ++ putNat 1 f.template ++ putText f.lecturer

def getOrderOpen : Reader OrderOpenReq := fun bs => do
  let (order, bs) ← getNat 2 bs
  let (account, bs) ← getNat 1 bs
  let (cls, bs) ← getNat 1 bs
  let (preference, bs) ← getEnum preferenceNames bs
  let (stock, bs) ← getNat 1 bs
  let (bracket, bs) ← getBracket bs
  let (template, bs) ← getNat 1 bs
  let (lecturer, bs) ← getText bs
  return ({ order, account, cls, preference, stock, bracket, template, lecturer }, bs)

def putItemAdd (f : ItemAddReq) : List Byte :=
  putNat 2 f.order ++ putInt 2 f.offset ++ putNat 1 f.filter ++ putNat 1 f.copies ++ putText f.callNumber ++
  putOption putText f.title ++ putOption putText f.note

def getItemAdd : Reader ItemAddReq := fun bs => do
  let (order, bs) ← getNat 2 bs
  let (offset, bs) ← getInt 2 bs
  let (filter, bs) ← getNat 1 bs
  let (copies, bs) ← getNat 1 bs
  let (callNumber, bs) ← getText bs
  let (title, bs) ← getOption getText bs
  let (note, bs) ← getOption getText bs
  return ({ order, offset, filter, copies, callNumber, title, note }, bs)

def getOrderReq : Reader OrderReq := fun bs => do
  let (order, bs) ← getNat 2 bs
  return ({ order }, bs)

def getOrderPriority : Reader OrderPriorityReq := fun bs => do
  let (order, bs) ← getNat 2 bs
  let (cls, bs) ← getNat 1 bs
  return ({ order, cls }, bs)

def getItemReq : Reader ItemReq := fun bs => do
  let (order, bs) ← getNat 2 bs
  let (item, bs) ← getNat 1 bs
  return ({ order, item }, bs)

def getStationSet : Reader StationSetReq := fun bs => do
  let (station, bs) ← getNat 1 bs
  let (settings, bs) ← getSettings bs
  return ({ station, settings }, bs)

def getStationReq : Reader StationReq := fun bs => do
  let (station, bs) ← getNat 1 bs
  return ({ station }, bs)

def putPlanDirect (f : PlanDirectReq) : List Byte :=
  putInt 1 f.calibration ++ putInt 1 f.subject ++ putInt 1 f.speed ++ putNat 1 f.filter ++ putNat 2 f.magnification ++
  putInt 1 f.offset ++ putEnum roundingNames f.rounding

def getPlanDirect : Reader PlanDirectReq := fun bs => do
  let (calibration, bs) ← getInt 1 bs
  let (subject, bs) ← getInt 1 bs
  let (speed, bs) ← getInt 1 bs
  let (filter, bs) ← getNat 1 bs
  let (magnification, bs) ← getNat 2 bs
  let (offset, bs) ← getInt 1 bs
  let (rounding, bs) ← getEnum roundingNames bs
  return ({ calibration, subject, speed, filter, magnification, offset, rounding }, bs)

def putPlanStation (f : PlanStationReq) : List Byte :=
  putNat 1 f.station ++ putNat 1 f.stock ++ putNat 1 f.filter ++ putInt 1 f.subject ++ putInt 1 f.offset

def getPlanStation : Reader PlanStationReq := fun bs => do
  let (station, bs) ← getNat 1 bs
  let (stock, bs) ← getNat 1 bs
  let (filter, bs) ← getNat 1 bs
  let (subject, bs) ← getInt 1 bs
  let (offset, bs) ← getInt 1 bs
  return ({ station, stock, filter, subject, offset }, bs)

def getPlanItem : Reader PlanItemReq := fun bs => do
  let (station, bs) ← getNat 1 bs
  let (order, bs) ← getNat 2 bs
  let (item, bs) ← getNat 1 bs
  return ({ station, order, item }, bs)

def getStockSet : Reader StockSetReq := fun bs => do
  let (code, bs) ← getNat 1 bs
  let (remove, bs) ← getFlag bs
  let (speed, bs) ← getInt 1 bs
  let (name, bs) ← getText bs
  if remove then none else return ({ code, speed, name }, bs)

def getStockRemove : Reader StockReq := fun bs => do
  let (code, bs) ← getNat 1 bs
  let (remove, bs) ← getFlag bs
  if remove then return ({ code }, bs) else none

def getLoad : Reader LoadReq := fun bs => do
  let (station, bs) ← getNat 1 bs
  let (stock, bs) ← getNat 1 bs
  return ({ station, stock }, bs)

def getFrameRead : Reader FrameReadReq := fun bs => do
  let (roll, bs) ← getNat 2 bs
  let (first, bs) ← getNat 1 bs
  let (count, bs) ← getNat 1 bs
  return ({ roll, first, count }, bs)

def getCull : Reader CullReq := fun bs => do
  let (roll, bs) ← getNat 2 bs
  let (first, bs) ← getNat 1 bs
  let (actions, bs) ← getList (getEnum cullNames) bs
  return ({ roll, first, actions }, bs)

def getCloseRoll : Reader CloseRollReq := fun bs => do
  let (roll, bs) ← getNat 2 bs
  let (force, bs) ← getFlag bs
  return ({ roll, force }, bs)

def getTariffSet : Reader TariffSetReq := fun bs => do
  let (cls, bs) ← getNat 1 bs
  let (centre, bs) ← getNat 2 bs
  let (bracket, bs) ← getNat 2 bs
  let (copy, bs) ← getNat 2 bs
  let (mount, bs) ← getNat 2 bs
  return ({ cls, centre, bracket, copy, mount }, bs)

def getAccountSet : Reader AccountSetReq := fun bs => do
  let (slot, bs) ← getNat 1 bs
  let (name, bs) ← getText bs
  let (cls, bs) ← getNat 1 bs
  let (limit, bs) ← getNat 4 bs
  return ({ slot, name, cls, limit }, bs)

def getAccountReq : Reader AccountReq := fun bs => do
  let (slot, bs) ← getNat 1 bs
  return ({ slot }, bs)

def getAdjust : Reader AdjustReq := fun bs => do
  let (slot, bs) ← getNat 1 bs
  let (amount, bs) ← getInt 3 bs
  return ({ slot, amount }, bs)

def getJournalRead : Reader JournalReadReq := fun bs => do
  let (count, bs) ← getNat 1 bs
  return ({ count }, bs)

def getJournalRelease : Reader JournalReleaseReq := fun bs => do
  let (number, bs) ← getNat 4 bs
  return ({ number }, bs)

def getClockSet : Reader ClockSetReq := fun bs => do
  let (value, bs) ← getNat 4 bs
  return ({ value }, bs)

def getRollReq : Reader RollReq := fun bs => do
  let (roll, bs) ← getNat 2 bs
  return ({ roll }, bs)

def getLabelFrame : Reader LabelFrameReq := fun bs => do
  let (roll, bs) ← getNat 2 bs
  let (frame, bs) ← getNat 1 bs
  let (charge, bs) ← getFlag bs
  return ({ roll, frame, charge }, bs)

def getLabelRead : Reader LabelReadReq := fun bs => do
  let (first, bs) ← getNat 1 bs
  let (count, bs) ← getNat 1 bs
  return ({ first, count }, bs)

/-- A piece: its kind, literal 0 or field 1, then the text or the field's number (log entry 12). -/
def putPiece : Piece → List Byte
  | .literal t => 0 :: putText t
  | .field f => 1 :: putEnum labelFieldNames f

def getPiece : Reader Piece
  | [] => none
  | b :: rest =>
    if b = 0 then match getText rest with
      | some (t, r) => some (.literal t, r)
      | none => none
    else if b = 1 then match getEnum labelFieldNames rest with
      | some (f, r) => some (.field f, r)
      | none => none
    else none

def getTemplateLoad : Reader TemplateLoadReq := fun bs => do
  let (template, bs) ← getNat 1 bs
  let (lines, bs) ← getList (getList getPiece) bs
  return ({ template, lines }, bs)

def getTemplateReq : Reader TemplateReq := fun bs => do
  let (template, bs) ← getNat 1 bs
  return ({ template }, bs)

def getPrinterSet : Reader PrinterSetReq := fun bs => do
  let (enable, bs) ← getFlag bs
  let (window, bs) ← getNat 1 bs
  return ({ enable, window }, bs)

def getPrinterStatus : Reader PrinterStatusReq := fun bs => do
  let (ask, bs) ← getFlag bs
  return ({ ask }, bs)

def getUnitReq : Reader UnitReq := fun bs => do
  let (unit, bs) ← getNat 1 bs
  return ({ unit }, bs)

/-- A request that carries no fields. -/
def getNothing : Reader Unit := fun bs => some ((), bs)

/-- The command of a good frame with a tag of 1..255 (R197): a request, or UNKNOWN_KIND. -/
def decodeRequest (kind tag : Byte) (payload : List Byte) : Instr :=
  match kind.toNat with
  | 1 => .orderOpen tag (readWhole getOrderOpen payload)
  | 2 => .itemAdd tag (readWhole getItemAdd payload)
  | 3 => .orderSubmit tag (readWhole getOrderReq payload)
  | 4 => .hold tag (readWhole getOrderReq payload)
  | 5 => .release tag (readWhole getOrderReq payload)
  | 6 => .orderPriority tag (readWhole getOrderPriority payload)
  | 7 => .orderCancel tag (readWhole getOrderReq payload)
  | 8 => .orderRead tag (readWhole getOrderReq payload)
  | 9 => .itemRead tag (readWhole getItemReq payload)
  | 10 => .stationSet tag (readWhole getStationSet payload)
  | 11 => .stationRead tag (readWhole getStationReq payload)
  | 12 => .placed tag (readWhole getStationReq payload)
  | 13 => .inputTake tag (readWhole getStationReq payload)
  | 14 => .skipItem tag (readWhole getStationReq payload)
  | 15 => .abort tag (readWhole getStationReq payload)
  | 16 => match payload with
    | [] => .planQueryDirect tag .malformed
    | form :: rest => match form.toNat with
      | 0 => .planQueryDirect tag (readWhole getPlanDirect rest)
      | 1 => .planQueryStation tag (readWhole getPlanStation rest)
      | 2 => .planQueryItem tag (readWhole getPlanItem rest)
      | _ => .planQueryDirect tag .malformed
  | 17 => .genRead tag (readWhole getNothing payload)
  | 18 => .genClear tag (readWhole getNothing payload)
  | 19 => match readWhole getStockRemove payload with
    | .fields f => .stockSetRemove tag (.fields f)
    | .malformed => .stockSet tag (readWhole getStockSet payload)
  | 20 => .stockRead tag (readWhole getNothing payload)
  | 21 => .load tag (readWhole getLoad payload)
  | 22 => .unloadEarly tag (readWhole getStationReq payload)
  | 23 => .frameRead tag (readWhole getFrameRead payload)
  | 24 => .cull tag (readWhole getCull payload)
  | 25 => .closeRoll tag (readWhole getCloseRoll payload)
  | 26 => .confirmRoll tag (readWhole getStationReq payload)
  | 27 => .declareUnloaded tag (readWhole getStationReq payload)
  | 28 => .tariffSet tag (readWhole getTariffSet payload)
  | 29 => .tariffRead tag (readWhole getNothing payload)
  | 30 => .accountSet tag (readWhole getAccountSet payload)
  | 31 => .accountClear tag (readWhole getAccountReq payload)
  | 32 => .accountRead tag (readWhole getAccountReq payload)
  | 33 => .adjust tag (readWhole getAdjust payload)
  | 34 => .journalRead tag (readWhole getJournalRead payload)
  | 35 => .journalRelease tag (readWhole getJournalRelease payload)
  | 36 => .clockSet tag (readWhole getClockSet payload)
  | 37 => .clockRead tag (readWhole getNothing payload)
  | 38 => .labelRoll tag (readWhole getRollReq payload)
  | 39 => .labelFrame tag (readWhole getLabelFrame payload)
  | 40 => .labelCancel tag (readWhole getRollReq payload)
  | 41 => .labelRead tag (readWhole getLabelRead payload)
  | 42 => .templateLoad tag (readWhole getTemplateLoad payload)
  | 43 => .templateLock tag (readWhole getTemplateReq payload)
  | 44 => .templateUnlock tag (readWhole getTemplateReq payload)
  | 45 => .templateDrop tag (readWhole getTemplateReq payload)
  | 46 => .templateRead tag (readWhole getTemplateReq payload)
  | 47 => .printerSet tag (readWhole getPrinterSet payload)
  | 48 => .printerStatus tag (readWhole getPrinterStatus payload)
  | 49 => .faultRead tag (readWhole getUnitReq payload)
  | 50 => .faultClear tag (readWhole getUnitReq payload)
  | 51 => .ident tag (readWhole getNothing payload)
  | 52 => .status tag (readWhole getNothing payload)
  | 53 => .standReset tag (readWhole getNothing payload)
  | _ => .unknownKind tag kind

/-- A request frame's kind byte, tag and payload. -/
structure RequestFrame where
  kind : Byte
  tag : Byte
  payload : List Byte
deriving DecidableEq, Repr

/-- The frame of a payload that has its fields; none for a malformed payload. -/
def Payload.frame {α : Type} (p : Payload α) (kind : RequestKind) (tag : Byte) (put : α → List Byte) :
    Option RequestFrame :=
  match p with
  | .fields a => some { kind := kind.code, tag := tag, payload := put a }
  | .malformed => none

/-- The request frame that carries a request with its fields (R195, R202); none for the other commands. -/
def encodeRequest : Instr → Option RequestFrame
  | .orderOpen t p => p.frame .orderOpen t putOrderOpen
  | .itemAdd t p => p.frame .itemAdd t putItemAdd
  | .orderSubmit t p => p.frame .orderSubmit t fun f => putNat 2 f.order
  | .hold t p => p.frame .hold t fun f => putNat 2 f.order
  | .release t p => p.frame .release t fun f => putNat 2 f.order
  | .orderPriority t p => p.frame .orderPriority t fun f => putNat 2 f.order ++ putNat 1 f.cls
  | .orderCancel t p => p.frame .orderCancel t fun f => putNat 2 f.order
  | .orderRead t p => p.frame .orderRead t fun f => putNat 2 f.order
  | .itemRead t p => p.frame .itemRead t fun f => putNat 2 f.order ++ putNat 1 f.item
  | .stationSet t p => p.frame .stationSet t fun f => putNat 1 f.station ++ putSettings f.settings
  | .stationRead t p => p.frame .stationRead t fun f => putNat 1 f.station
  | .placed t p => p.frame .placed t fun f => putNat 1 f.station
  | .inputTake t p => p.frame .inputTake t fun f => putNat 1 f.station
  | .skipItem t p => p.frame .skipItem t fun f => putNat 1 f.station
  | .abort t p => p.frame .abort t fun f => putNat 1 f.station
  | .planQueryDirect t p => p.frame .planQuery t fun f => 0 :: putPlanDirect f
  | .planQueryStation t p => p.frame .planQuery t fun f => 1 :: putPlanStation f
  | .planQueryItem t p => p.frame .planQuery t fun f => 2 :: (putNat 1 f.station ++ putNat 2 f.order ++ putNat 1 f.item)
  | .genRead t p => p.frame .genRead t fun _ => []
  | .genClear t p => p.frame .genClear t fun _ => []
  | .stockSet t p => p.frame .stockSet t fun f => putNat 1 f.code ++ putFlag false ++ putInt 1 f.speed ++ putText f.name
  | .stockSetRemove t p => p.frame .stockSet t fun f => putNat 1 f.code ++ putFlag true
  | .stockRead t p => p.frame .stockRead t fun _ => []
  | .load t p => p.frame .load t fun f => putNat 1 f.station ++ putNat 1 f.stock
  | .unloadEarly t p => p.frame .unloadEarly t fun f => putNat 1 f.station
  | .frameRead t p => p.frame .frameRead t fun f => putNat 2 f.roll ++ putNat 1 f.first ++ putNat 1 f.count
  | .cull t p => p.frame .cull t fun f =>
      putNat 2 f.roll ++ putNat 1 f.first ++ putList (putEnum cullNames) f.actions
  | .closeRoll t p => p.frame .closeRoll t fun f => putNat 2 f.roll ++ putFlag f.force
  | .confirmRoll t p => p.frame .confirmRoll t fun f => putNat 1 f.station
  | .declareUnloaded t p => p.frame .declareUnloaded t fun f => putNat 1 f.station
  | .tariffSet t p => p.frame .tariffSet t fun f =>
      putNat 1 f.cls ++ putNat 2 f.centre ++ putNat 2 f.bracket ++ putNat 2 f.copy ++ putNat 2 f.mount
  | .tariffRead t p => p.frame .tariffRead t fun _ => []
  | .accountSet t p => p.frame .accountSet t fun f =>
      putNat 1 f.slot ++ putText f.name ++ putNat 1 f.cls ++ putNat 4 f.limit
  | .accountClear t p => p.frame .accountClear t fun f => putNat 1 f.slot
  | .accountRead t p => p.frame .accountRead t fun f => putNat 1 f.slot
  | .adjust t p => p.frame .adjust t fun f => putNat 1 f.slot ++ putInt 3 f.amount
  | .journalRead t p => p.frame .journalRead t fun f => putNat 1 f.count
  | .journalRelease t p => p.frame .journalRelease t fun f => putNat 4 f.number
  | .clockSet t p => p.frame .clockSet t fun f => putNat 4 f.value
  | .clockRead t p => p.frame .clockRead t fun _ => []
  | .labelRoll t p => p.frame .labelRoll t fun f => putNat 2 f.roll
  | .labelFrame t p => p.frame .labelFrame t fun f => putNat 2 f.roll ++ putNat 1 f.frame ++ putFlag f.charge
  | .labelCancel t p => p.frame .labelCancel t fun f => putNat 2 f.roll
  | .labelRead t p => p.frame .labelRead t fun f => putNat 1 f.first ++ putNat 1 f.count
  | .templateLoad t p => p.frame .templateLoad t fun f => putNat 1 f.template ++ putList (putList putPiece) f.lines
  | .templateLock t p => p.frame .templateLock t fun f => putNat 1 f.template
  | .templateUnlock t p => p.frame .templateUnlock t fun f => putNat 1 f.template
  | .templateDrop t p => p.frame .templateDrop t fun f => putNat 1 f.template
  | .templateRead t p => p.frame .templateRead t fun f => putNat 1 f.template
  | .printerSet t p => p.frame .printerSet t fun f => putFlag f.enable ++ putNat 1 f.window
  | .printerStatus t p => p.frame .printerStatus t fun f => putFlag f.ask
  | .faultRead t p => p.frame .faultRead t fun f => putNat 1 f.unit
  | .faultClear t p => p.frame .faultClear t fun f => putNat 1 f.unit
  | .ident t p => p.frame .ident t fun _ => []
  | .status t p => p.frame .status t fun _ => []
  | .standReset t p => p.frame .standReset t fun _ => []
  | .unknownKind t kind => some { kind := kind, tag := t, payload := [] }
  | .hostBadFrame _ => none
  | .interByteGap => none
  | .frameSent => none
  | .reset _ => none
  | .footSwitchEdge _ _ => none
  | .doorOpened _ => none
  | .doorClosed _ => none
  | .sprocketPulse _ => none
  | .advanceTimeout _ => none
  | .endOfFilmSensor _ => none
  | .rewindDone _ => none
  | .rewindTimerExpiry _ => none
  | .readyInputRise => none
  | .readyInputFall => none
  | .flashSensorReport => none
  | .flashConfirmWindowExpiry => none
  | .chargeTimerExpiry => none
  | .idleDischarge => none
  | .cooling => none
  | .minuteTimerExpiry => none
  | .printerDone _ => none
  | .printerFault _ _ _ => none
  | .printerReady _ => none
  | .badFrame _ => none
  | .printerTimerExpiry => none
  | .statusWaitExpiry => none
  | .stationSlotRequest _ => none
  | .printerSlotRequest => none

/-! ### The check and the receiver of the host link (R195, R196) -/

/-- One data bit taken into the CRC register (R195). -/
def crcBit (register : BitVec 16) (bit : Bool) : BitVec 16 :=
  if (register.getLsbD 15) == bit then register <<< 1 else (register <<< 1) ^^^ 0x1021

/-- One byte taken into the CRC register, most significant bit first. -/
def crcByte (register : BitVec 16) (b : Byte) : BitVec 16 :=
  [7, 6, 5, 4, 3, 2, 1, 0].foldl (fun r i => crcBit r (b.getLsbD i)) register

/-- The CRC-16 of bytes (R195). -/
def crc16 (bs : List Byte) : BitVec 16 := bs.foldl crcByte 0xFFFF

/-- The two CRC bytes, high byte first. -/
def crcBytes (bs : List Byte) : List Byte := [(crc16 bs).extractLsb' 8 8, (crc16 bs).extractLsb' 0 8]

/-- A whole frame of the host link (R195). -/
def hostFrame (kind tag : Byte) (payload : List Byte) : List Byte :=
  let body := BitVec.ofNat 8 (payload.length + 2) :: kind :: tag :: payload
  0xA5 :: (body ++ crcBytes body)

/-- The host-link receiver: HUNTING, or COLLECTING with the bytes after the sync byte (R196). -/
inductive Receiver
  | hunting
  | collecting (bytes : List Byte)
deriving DecidableEq, Repr

/-- What the receiver's last character ended: no frame, a bad frame, or a good one. -/
inductive Received
  | nothing
  | bad
  | good (f : RequestFrame)
deriving DecidableEq, Repr

/-- The judgement of a frame whose bytes are all there: its CRC matches or it is bad (R196). -/
def judgeFrame (bytes : List Byte) : Received :=
  let n := bytes.length - 2
  if bytes.drop n = crcBytes (bytes.take n) then
    match bytes.take n with
    | _ :: kind :: tag :: payload => .good { kind, tag, payload }
    | _ => .bad
  else .bad

/-- One character taken by the receiver (R196). -/
def Receiver.take (r : Receiver) (c : HostChar) : Receiver × Received :=
  match r, c with
  | .hunting, .byte b => if b = 0xA5 then (.collecting [], .nothing) else (.hunting, .nothing)
  | .hunting, .bad => (.hunting, .nothing)
  | .collecting _, .bad => (.hunting, .bad)
  | .collecting bs, .byte b =>
    let all := bs ++ [b]
    match all with
    | [] => (.hunting, .bad)
    | len :: _ =>
      if len.toNat < 2 ∨ 250 < len.toNat then (.hunting, .bad)
      else if all.length = len.toNat + 3 then (.hunting, judgeFrame all)
      else (.collecting all, .nothing)

/-- Characters taken one after another: the receiver after them, and what each ended. -/
def Receiver.takeAll (r : Receiver) : List HostChar → Receiver × List Received
  | [] => (r, [])
  | c :: cs =>
    let (r', got) := r.take c
    let (r'', rest) := Receiver.takeAll r' cs
    (r'', got :: rest)

/-- The command that a word of the table's bits spells: the table gives its rows no bits, so none. -/
def decodeTableWord (_nbits _w : Nat) : Option Instr := none

end Sys2Proof
end

