-- ==== Sys2Proof/Machine/State.lean ====
section
/-! DEFINITION. The state of the part, block by block (spec/00, block overview), as plain data, and its value right after a
cold reset. -/

namespace Sys2Proof.Machine

/-- A timer: the period in milliseconds it was started with while it runs, none while it is stopped. -/
abbrev Timer := Option Nat

/-- One value for each of the three stations. -/
structure PerStation (α : Type) where
  a : α
  b : α
  d : α
deriving DecidableEq, Repr

/-! ### Order manager (R1, R2) -/

/-- Hold reasons of an order (R1). -/
inductive HoldReason | host | limit | tableFull | journalFull | rollEnd | fault | generator | reset
deriving DecidableEq, Repr

/-- State of an order; the hold reason is present in HELD alone (R1). -/
inductive OrderState
  | draft | waiting | active
  | held (reason : HoldReason)
  | exposed | cancelled
deriving DecidableEq, Repr

/-- State of an item (R2). -/
inductive ItemState | pending | inProgress | done | skipped
deriving DecidableEq, Repr

/-- An item record of the pool (R2). -/
structure Item where
  number : Nat
  offset : Int
  filter : Nat
  copies : Nat
  callNumber : Text
  title : Option Text
  note : Option Text
  state : ItemState
  framesDone : Nat
deriving DecidableEq, Repr

/-- An order record (R1); `nextItem` is the next item index, a position in the item list counted from 1. -/
structure Order where
  id : Nat
  state : OrderState
  account : Nat
  cls : Nat
  preference : Preference
  stock : Nat
  bracket : Bracket
  template : Nat
  lecturer : Text
  bound : Option Station
  arrival : Option Nat
  items : List Item
  nextItem : Nat
deriving DecidableEq, Repr

/-- ORD: the order table, with the item pool in it, and the arrival counter (R1, R2, R5). -/
structure Ord where
  orders : List Order
  arrival : Nat
deriving DecidableEq, Repr

/-! ### Exposure plans (R25, R66) -/

/-- Tariff kind of a frame (R25). -/
inductive TariffKind | centre | bracket | copy
deriving DecidableEq, Repr

/-- An entry of a planned frame list (R25). -/
structure Entry where
  offset : Int
  kind : TariffKind
deriving DecidableEq, Repr

/-- A shot plan (R66). -/
structure ShotPlan where
  required : Int
  pops : Nat
  level : Nat
  achieved : Int
  deviation : Int
  energy : Nat
  overFlag : Bool
  underFlag : Bool
deriving DecidableEq, Repr

/-! ### Station sequencers (R20 to R24, R187) -/

/-- Hold reasons of a station (R22). -/
inductive StationHold | tableFull | limit | journalFull
deriving DecidableEq, Repr

/-- State of a station; the hold reason is present in HELD alone (R22). -/
inductive Mode
  | unloaded | loading | ready | separating | announced | exposing | advancing
  | held (reason : StationHold)
  | ending | awaitUnload | interrupted | fault
deriving DecidableEq, Repr

/-- Station fault kinds (R49, R185). -/
inductive StationFault | jam | leaderJam | rewindTimeout | misfireRepeat
deriving DecidableEq, Repr

/-- What a station in FAULT remembers: the state before, the cause, the unfinished move (R49, R187). -/
structure FaultMemory where
  before : Mode
  cause : StationFault
  unfinished : Bool
deriving DecidableEq, Repr

/-- Generator request state of an item context (R24). -/
inductive GenReq | none | waiting | granted
deriving DecidableEq, Repr

/-- The rates copied at announce (R126). -/
structure RateSnapshot where
  centre : Nat
  bracket : Nat
  copy : Nat
deriving DecidableEq, Repr

/-- The current shot plan with its counts of pops fired and confirmed (R24). -/
structure CurrentPlan where
  plan : ShotPlan
  fired : Nat
  confirmed : Nat
deriving DecidableEq, Repr

/-- An item context (R24). `account` is the account its reservation stands on; `recorded` says that a frame has been
recorded for the item since its announce, which R33 asks. -/
structure ItemContext where
  order : Nat
  item : Nat
  account : Nat
  entries : List Entry
  nextIndex : Nat
  rates : RateSnapshot
  remaining : Nat
  records : Nat
  retake : Nat
  slotHeld : Bool
  request : GenReq
  plan : Option CurrentPlan
  recorded : Bool
deriving DecidableEq, Repr

/-- What the station does with the outcome of its outstanding pop: none is outstanding; it is acted upon (R35); the frame
is spoiled and the station leaves its order (R44); the grant is released and nothing else (R26, R48). -/
inductive PopWait | none | act | spoil | discard
deriving DecidableEq, Repr

/-- A station sequencer. `repeatMisfire` is set during the advance of R40; `roomReport` is set from a room report that
reached the waiting station to its request (R140). -/
structure Sequencer where
  settings : Settings
  mode : Mode
  current : Option Nat
  context : Option ItemContext
  footPending : Bool
  faultMemory : Option FaultMemory
  popWait : PopWait
  repeatMisfire : Bool
  roomReport : Bool
deriving DecidableEq, Repr

/-! ### Film drives (R98 to R102, R110) -/

/-- The kinds of move (spec/05, section 5.3). -/
inductive Move | leader | advance | recovery | rewind
deriving DecidableEq, Repr

/-- The motor drive output. -/
inductive Motor | stopped | forward | reverse
deriving DecidableEq, Repr

/-- A film drive. -/
structure Drive where
  move : Option Move
  pulses : Nat
  leader : Nat
  endSeen : Bool
  advanceTimer : Timer
  rewindTimer : Timer
  motor : Motor
  door : Door
deriving DecidableEq, Repr

/-! ### Generator controller and arbiter (R72 to R83) -/

/-- Generator state (R72). -/
inductive GenMode | off | charging | ready | firing | fault
deriving DecidableEq, Repr

/-- The power-level output (spec/04, section 4.1). -/
inductive Power
  | safe
  | level (p : Nat)
deriving DecidableEq, Repr

/-- A request of the request list (R80). -/
structure GenRequest where
  station : Station
  cls : Nat
  energy : Nat
deriving DecidableEq, Repr

/-- The grant holder with its fire record (R83, R76). -/
structure Holder where
  station : Station
  given : Nat
  pending : Option Nat
deriving DecidableEq, Repr

/-- GEN. `readyInput` is the level of the ready input. -/
structure Gen where
  mode : GenMode
  output : Power
  heat : Nat
  requests : List GenRequest
  chosen : Option Station
  holder : Option Holder
  lastGrant : List Station
  chargeTimer : Timer
  windowTimer : Timer
  idleTimer : Timer
  coolingTimer : Timer
  readyInput : Bool
deriving DecidableEq, Repr

/-! ### Roll manager (R92 to R104) -/

/-- A present stock table entry (R92). -/
structure Stock where
  code : Nat
  speed : Int
  name : Text
deriving DecidableEq, Repr

/-- Former state of an INTERRUPTED roll (R94). -/
inductive FormerState | loading | opened | rewinding
deriving DecidableEq, Repr

/-- State of a roll; the former state is present in INTERRUPTED alone (R94, R95). -/
inductive RollState
  | loading | opened | rewinding | full | out
  | interrupted (former : FormerState)
deriving DecidableEq, Repr

/-- A roll record (R94). -/
structure Roll where
  number : Nat
  station : Option Station
  stock : Nat
  back : BackType
  capacity : Nat
  next : Nat
  state : RollState
  short : Bool
  openedInLight : Bool
  uncertainFrame : Bool
  loadDate : Option Nat
deriving DecidableEq, Repr

/-- Kind of a frame (R104). -/
inductive FrameKind | exposed | spoiled | separator | recovery
deriving DecidableEq, Repr

/-- Verdict of a frame (R104). -/
inductive Verdict | none | keep | discard
deriving DecidableEq, Repr

/-- Label state of a frame (R104). -/
inductive LabelState | none | queued | printed
deriving DecidableEq, Repr

/-- The fields of a frame record that SEPARATOR and RECOVERY lack (R104): its order and item, its place in the planned
frame list, and the figures of its shot plan. -/
structure Exposure where
  order : Nat
  item : Nat
  index : Nat
  kind : TariffKind
  offset : Int
  level : Nat
  pops : Nat
  achieved : Int
  deviation : Int
  overFlag : Bool
  underFlag : Bool
deriving DecidableEq, Repr

/-- A frame record (R104). -/
structure Frame where
  roll : Nat
  number : Nat
  kind : FrameKind
  exposure : Option Exposure
  charged : Bool
  date : Option Nat
  suspect : Bool
  verdict : Verdict
  label : LabelState
  duplicateRisk : Bool
  uncertain : Bool
deriving DecidableEq, Repr

/-- ROL: stock table, roll table, frame table, reservation count, last roll number. -/
structure Rol where
  stocks : List Stock
  rolls : List Roll
  frames : List Frame
  reserved : Nat
  lastRoll : Nat
deriving DecidableEq, Repr

/-! ### Account unit (R118, R121) -/

/-- The four rates of a tariff class (R118). -/
structure Rates where
  centre : Nat
  bracket : Nat
  copy : Nat
  mount : Nat
deriving DecidableEq, Repr

/-- The tariff table: classes 1 to 4 (R118). -/
structure Tariffs where
  class1 : Rates
  class2 : Rates
  class3 : Rates
  class4 : Rates
deriving DecidableEq, Repr

/-- A present account (R121). -/
structure Account where
  slot : Nat
  name : Text
  cls : Nat
  limit : Nat
  charged : Nat
  mounted : Nat
  adjusted : Int
  reserved : Nat
deriving DecidableEq, Repr

/-- ACC: tariff table and account table, the present slots in slot order. -/
structure Acc where
  tariffs : Tariffs
  accounts : List Account
deriving DecidableEq, Repr

/-! ### Journal and day clock (R134, R135, R145) -/

/-- Kind of a journal entry (R134). -/
inductive EntryKind | exposure | mount | adjust
deriving DecidableEq, Repr

/-- A journal entry (R134). -/
structure JournalEntry where
  seq : Nat
  kind : EntryKind
  account : Nat
  amount : Int
  order : Option Nat
  item : Option Nat
  roll : Option Nat
  frame : Option Nat
  date : Option Nat
deriving DecidableEq, Repr

/-- JNL: entries oldest first, slot reservation count, next sequence number. -/
structure Jnl where
  entries : List JournalEntry
  reserved : Nat
  next : Nat
deriving DecidableEq, Repr

/-- CLK: the day clock and its minute timer. -/
structure Clk where
  minutes : Nat
  timer : Timer
deriving DecidableEq, Repr

/-! ### Label composer (R149, R156) -/

/-- State of a label job; the printer sequence number is present in SENT alone. A job is DONE only inside the event that
completes it and removes it (R149), so no stored job is. -/
inductive JobState
  | queued | templateWait
  | sent (seq : Nat)
deriving DecidableEq, Repr

/-- A label job (R149). -/
structure LabelJob where
  roll : Nat
  frame : Nat
  template : Nat
  charge : Bool
  state : JobState
  lines : Option (List Text)
deriving DecidableEq, Repr

/-- A slot of the template store (R156). -/
structure TemplateSlot where
  tag : Option Nat
  locked : Bool
  content : Option (List (List Piece))
deriving DecidableEq, Repr

/-- LBL: the label queue, the eight slots in slot order, the LRU order by slot number, most recent first. -/
structure Lbl where
  jobs : List LabelJob
  slots : List TemplateSlot
  lru : List Nat
deriving DecidableEq, Repr

/-! ### Printer link (R170, R171) -/

/-- Link state (R171). -/
inductive LinkState | off | idle | sending | held | asking | down
deriving DecidableEq, Repr

/-- An entry of the in-flight list (R171). -/
structure InFlight where
  roll : Nat
  frame : Nat
  seq : Nat
  slotHeld : Bool
deriving DecidableEq, Repr

/-- The receiver of the printer line: hunting, or collecting with the characters from the STX on (R170). -/
inductive PrinterReceiver
  | hunting
  | collecting (chars : List PrinterChar)
deriving DecidableEq, Repr

/-- PRN. `roomReport` is set from a room report that reached the paused link to its request (R140, R173). -/
structure Prn where
  state : LinkState
  enabled : Bool
  window : Nat
  inFlight : List InFlight
  nextSeq : Nat
  paused : Bool
  roomReport : Bool
  printerTimer : Timer
  statusTimer : Timer
  receiver : PrinterReceiver
deriving DecidableEq, Repr

/-! ### Fault capture (R184, R185) -/

/-- The units that fault, in unit-number order (R184). -/
inductive Unit5 | stationA | stationB | stationD | gen | prn
deriving DecidableEq, Repr

/-- Fault kinds of all units (R185). -/
inductive FaultKind
  | station (f : StationFault)
  | genChargeTimeout
  | badFrame | outOfOrder | noStock | printerJam | head | printerTimeout
deriving DecidableEq, Repr

/-- A locked capture (R184); an empty capture is the absence of one. -/
structure Capture where
  kind : FaultKind
  date : Option Nat
  station : Option Station
  order : Option Nat
  item : Option Nat
  roll : Option Nat
  frame : Option Nat
  further : Bool
deriving DecidableEq, Repr

/-- FLT: the five captures. -/
structure Flt where
  stationA : Option Capture
  stationB : Option Capture
  stationD : Option Capture
  gen : Option Capture
  prn : Option Capture
deriving DecidableEq, Repr

/-! ### Link controller (R194 to R203) -/

/-- Line rate (R194). -/
inductive LineRate | r9600 | r19200 | r38400 | r57600
deriving DecidableEq, Repr

/-- Kind of a reset (R203). -/
inductive ResetKind | cold | warm | stand
deriving DecidableEq, Repr

/-- Status codes of a reply (R198). -/
inductive Status
  | ok | unknownKind | badField | state | busy | full | notFound | empty | overLimit | belowCommitted
  | journalFull | storeFull | notResident | labelled
deriving DecidableEq, Repr

/-- The notices (R200). -/
inductive Notice
  | start (kind : ResetKind) (carried : Nat)
  | stationState (st : Station) (mode : Mode) (current : Option Nat)
  | itemReady (st : Station) (order item : Nat) (callNumber : Text)
  | itemDone (st : Station) (order item : Nat) (state : ItemState) (framesDone : Nat)
  | orderHeld (order : Nat) (reason : HoldReason)
  | orderDone (order : Nat)
  | rollFull (roll : Nat) (st : Station) (capacity frames : Nat) (short : Bool)
  | rollOut (roll : Nat) (st : Station) (frames : Nat) (short openedInLight uncertainFrame : Bool)
  | rollLabelled (roll : Nat)
  | generatorState (mode : GenMode) (heat : Nat)
  | templateNeeded (template roll frame : Nat)
  | journalHigh (count reserved oldest : Nat)
  | fault (unit : Unit5) (kind : FaultKind)
deriving DecidableEq, Repr

/-- A planned entry as PLAN_QUERY in the ITEM form reports it (R70). -/
structure PlannedEntry where
  position : Nat
  entry : Entry
  exposed : Bool
  plan : ShotPlan
deriving DecidableEq, Repr

/-- A waiting head as LABEL_READ reports it (R154). -/
structure HeadReport where
  position : Nat
  waiting : Bool
deriving DecidableEq, Repr

/-- The fields of a reply after its status code (R198). -/
inductive ReplyBody
  | nothing
  | committed (c : Int)
  | headroom (h : Int)
  | firstFrame (n : Nat)
  | itemAdded (item : Nat) (clamped : Bool)
  | arrival (n : Nat)
  | order (o : Order) (position : Option Nat)
  | item (i : Item)
  | station (settings : Settings) (mode : Mode) (current : Option Nat) (footPending : Bool)
      (context : Option ItemContext) (before : Option Mode)
  | footPending (b : Bool)
  | planned (bellows : Nat) (plan : ShotPlan) (surplus remainder : Option Nat)
  | plannedAt (bellows : Nat) (plan : ShotPlan)
  | plannedItem (entries : List PlannedEntry) (energy : Nat)
  | generator (mode : GenMode) (output : Power) (heat : Nat) (requests : List (GenRequest × Bool))
      (holder : Option Holder) (lastGrant : List Station)
  | stocks (entries : List (Stock × Nat))
  | loaded (roll capacity : Nat)
  | frames (roll : Roll) (records : List Frame)
  | changed (n : Nat)
  | closed (frames orders : Nat)
  | tariffs (classes : List (Rates × Nat))
  | account (a : Account) (committed : Int) (headroom : Option Int) (orders : Nat) (remaining : List Nat)
      (entries : Nat)
  | adjusted (committed : Int) (seq : Nat)
  | journal (count reserved free next : Nat) (entries : List JournalEntry)
  | released (removed count : Nat) (oldest : Option Nat)
  | clockWas (value : Nat)
  | clock (value : Nat) (date time : Option Text)
  | labelsQueued (queued left : Nat)
  | labelPosition (n : Nat)
  | labelsCancelled (removed sent : Nat)
  | labels (count sent : Nat) (head : Option HeadReport) (jobs : List LabelJob)
  | templateSlot (slot : Nat) (evicted : Option Nat)
  | templates (slots : List (TemplateSlot × Option Nat)) (asked resident : Bool) (lines : Option (List (List Piece)))
  | linkState (s : LinkState)
  | printer (state : LinkState) (enabled : Bool) (window nextSeq : Nat) (paused : Bool) (inFlight : List InFlight)
      (asked : Bool)
  | stationCapture (c : Option Capture) (memory : Option FaultMemory) (inFault pulling : Bool)
  | genCapture (c : Option Capture) (mode : GenMode)
  | prnCapture (c : Option Capture) (state : LinkState)
  | ident (revision : Nat)
  | status (noticeOverflow requestOverflow : Bool) (notices replies : Nat) (rate : LineRate) (last : ResetKind)
deriving DecidableEq, Repr

/-- A reply of the reply list (R197, R198). -/
structure Reply where
  tag : Byte
  kind : Byte
  status : Status
  body : ReplyBody
deriving DecidableEq, Repr

/-- A frame the transmitter sends (R199). -/
inductive OutFrame
  | reply (r : Reply)
  | notice (n : Notice)
deriving DecidableEq, Repr

/-- LNK. -/
structure Lnk where
  receiver : Receiver
  gapTimer : Timer
  replies : List Reply
  notices : List Notice
  noticeOverflow : Bool
  requestOverflow : Bool
  transmitter : Option OutFrame
  rate : LineRate
  lastReset : ResetKind
deriving DecidableEq, Repr

/-! ### The whole part -/

/-- A character the part sends on the printer line: its 8 data bits and its parity bit (R169). -/
structure LineChar where
  data : Byte
  parity : Bool
deriving DecidableEq, Repr

/-- What a command puts on a line that holds no level: the bytes of a host-link frame begun, the fire pulse with its
level, the characters of a frame sent to the printer. The MODEL's own record of the last command (log entry 1). -/
inductive Output
  | hostFrame (bytes : List Byte)
  | fire (level : Nat)
  | printerFrame (chars : List LineChar)
deriving DecidableEq, Repr

/-- The state of the part. `outputs`, `free` and `pending` are the model's own fields: what the last command put out, the
counter the free values are applied to, and the commands that wait, first in, first out. -/
structure State where
  lnk : Lnk
  ord : Ord
  seqs : PerStation Sequencer
  drives : PerStation Drive
  gen : Gen
  rol : Rol
  acc : Acc
  jnl : Jnl
  clk : Clk
  lbl : Lbl
  prn : Prn
  flt : Flt
  outputs : List Output
  free : Nat
  pending : List Instr
deriving DecidableEq, Repr

/-- Reasons for which the part stops. No command of the manual stops the part: a fault of a unit is a capture and a next
state (R186). -/
inductive Fault
  /-- Raised by no command. Safe: it is never answered. -/
  | none
deriving DecidableEq, Repr

/-- Reasons for which a command is refused by the model. -/
inductive Refusal
  /-- Raised by `exec`'s arm of a command that has no meaning yet. Safe: nothing is claimed about it. -/
  | notModelled (mnemonic : String)
deriving DecidableEq, Repr

/-! ### After a cold reset -/

/-- Settings after a cold reset (R20). -/
def coldSettings : Settings :=
  { back := .cassette, calibration := 0, magnification := 0, filter1 := 0, filter2 := 0, filter3 := 0, filter4 := 0,
    rounding := .nearestEven, separator := false, footEnabled := false, footEdge := .press, early := false }

/-- A sequencer after a cold reset (R20, R22, R24, R32, R50). -/
def coldSequencer : Sequencer :=
  { settings := coldSettings, mode := .unloaded, current := none, context := none, footPending := false,
    faultMemory := none, popWait := .none, repeatMisfire := false, roomReport := false }

/-- A drive after any reset (R98), with the door as its switch stands (R110). -/
def stillDrive (door : Door) : Drive :=
  { move := none, pulses := 0, leader := 0, endSeen := false, advanceTimer := none, rewindTimer := none,
    motor := .stopped, door := door }

/-- The generator after a reset (R91), with the heat account given and the ready input as it stands. -/
def resetGen (heat : Nat) (readyInput : Bool) : Gen :=
  { mode := .off, output := .safe, heat := heat, requests := [], chosen := none, holder := none, lastGrant := [],
    chargeTimer := none, windowTimer := none, idleTimer := none, coolingTimer := some Config.coolingInterval,
    readyInput := readyInput }

def coldRates : Rates := { centre := 0, bracket := 0, copy := 0, mount := 0 }

def emptySlot : TemplateSlot := { tag := none, locked := false, content := none }

/-- The printer link after a reset (R171, R183): the enable setting decides OFF or IDLE. -/
def resetPrn (enabled : Bool) (window : Nat) : Prn :=
  { state := if enabled then .idle else .off, enabled := enabled, window := window, inFlight := [], nextSeq := 0,
    paused := false, roomReport := false, printerTimer := none, statusTimer := none, receiver := .hunting }

/-- The blocks behind LNK after a cold reset (spec/01 to spec/10), under the link controller given. -/
def coldBlocks (lnk : Lnk) (doors : PerStation Door) (readyInput : Bool) : State :=
  { lnk := lnk
    ord := { orders := [], arrival := 1 }
    seqs := { a := coldSequencer, b := coldSequencer, d := coldSequencer }
    drives := { a := stillDrive doors.a, b := stillDrive doors.b, d := stillDrive doors.d }
    gen := resetGen 0 readyInput
    rol := { stocks := [], rolls := [], frames := [], reserved := 0, lastRoll := 0 }
    acc := { tariffs := { class1 := coldRates, class2 := coldRates, class3 := coldRates, class4 := coldRates }
             accounts := [] }
    jnl := { entries := [], reserved := 0, next := 1 }
    clk := { minutes := 0, timer := none }
    lbl := { jobs := [], slots := List.replicate 8 emptySlot, lru := [] }
    prn := resetPrn false 2
    flt := { stationA := none, stationB := none, stationD := none, gen := none, prn := none }
    outputs := []
    free := 0
    pending := [] }

/-- The part right after a cold reset. The pins are read with the doors closed, the straps low and the ready input low
(log entry 2); START is at the transmitter and the start-up notices wait in the order of R204 (log entry 4). -/
def State.reset : State :=
  coldBlocks
    { receiver := .hunting, gapTimer := none, replies := []
      notices := [.stationState .a .unloaded none, .stationState .b .unloaded none, .stationState .d .unloaded none,
                  .generatorState .off 0]
      noticeOverflow := false, requestOverflow := false, transmitter := some (.notice (.start .cold 0))
      rate := .r9600, lastReset := .cold }
    { a := .closed, b := .closed, d := .closed } false

end Sys2Proof.Machine
end

