-- ==== Sys2Proof/Machine/Encoding.lean ====
section
/-! DEFINITION. The bytes of the frames the part sends: replies and notices on the host link (R195, R198, R200, R202), and
P and Q frames on the printer line (R169). -/

namespace Sys2Proof.Machine

/-- An optional number of `w` bytes. -/
def putOptNat (w : Nat) : Option Nat → List Byte := putOption (putNat w)

/-- An optional signed number of `w` bytes. -/
def putOptInt (w : Nat) : Option Int → List Byte := putOption (putInt w)

def putStation (st : Station) : List Byte := putEnum stationNames st

/-- A byte of an enumerated value, by its number. -/
def putCode (n : Nat) : List Byte := putNat 1 n

/-! ### Numbers of the enumerated values, in the order the manual lists them -/

def OrderState.code : OrderState → Nat
  | .draft => 0 | .waiting => 1 | .active => 2 | .held _ => 3 | .exposed => 4 | .cancelled => 5

def OrderState.reason? : OrderState → Option HoldReason
  | .held r => some r
  | _ => none

def HoldReason.code : HoldReason → Nat
  | .host => 0 | .limit => 1 | .tableFull => 2 | .journalFull => 3 | .rollEnd => 4 | .fault => 5 | .generator => 6
  | .reset => 7

def ItemState.code : ItemState → Nat
  | .pending => 0 | .inProgress => 1 | .done => 2 | .skipped => 3

/-- Number of a station's state in the order of R22. -/
def Mode.code : Mode → Nat
  | .unloaded => 0 | .loading => 1 | .ready => 2 | .separating => 3 | .announced => 4 | .exposing => 5
  | .advancing => 6 | .held _ => 7 | .ending => 8 | .awaitUnload => 9 | .interrupted => 10 | .fault => 11

def Mode.hold? : Mode → Option StationHold
  | .held r => some r
  | _ => none

def StationHold.code : StationHold → Nat
  | .tableFull => 0 | .limit => 1 | .journalFull => 2

def StationFault.code : StationFault → Nat
  | .jam => 0 | .leaderJam => 1 | .rewindTimeout => 2 | .misfireRepeat => 3

def FaultKind.code : FaultKind → Nat
  | .station f => f.code | .genChargeTimeout => 4 | .badFrame => 5 | .outOfOrder => 6 | .noStock => 7
  | .printerJam => 8 | .head => 9 | .printerTimeout => 10

def GenReq.code : GenReq → Nat
  | .none => 0 | .waiting => 1 | .granted => 2

def TariffKind.code : TariffKind → Nat
  | .centre => 0 | .bracket => 1 | .copy => 2

def GenMode.code : GenMode → Nat
  | .off => 0 | .charging => 1 | .ready => 2 | .firing => 3 | .fault => 4

def RollState.code : RollState → Nat
  | .loading => 0 | .opened => 1 | .rewinding => 2 | .full => 3 | .out => 4 | .interrupted _ => 5

def RollState.former? : RollState → Option FormerState
  | .interrupted f => some f
  | _ => none

def FormerState.code : FormerState → Nat
  | .loading => 0 | .opened => 1 | .rewinding => 2

def FrameKind.code : FrameKind → Nat
  | .exposed => 0 | .spoiled => 1 | .separator => 2 | .recovery => 3

def Verdict.code : Verdict → Nat
  | .none => 0 | .keep => 1 | .discard => 2

def LabelState.code : LabelState → Nat
  | .none => 0 | .queued => 1 | .printed => 2

def EntryKind.code : EntryKind → Nat
  | .exposure => 0 | .mount => 1 | .adjust => 2

def JobState.code : JobState → Nat
  | .queued => 0 | .templateWait => 1 | .sent _ => 2

def JobState.seq? : JobState → Option Nat
  | .sent n => some n
  | _ => none

def LinkState.code : LinkState → Nat
  | .off => 0 | .idle => 1 | .sending => 2 | .held => 3 | .asking => 4 | .down => 5

/-- Unit numbers of R184. -/
def Unit5.code : Unit5 → Nat
  | .stationA => 0 | .stationB => 1 | .stationD => 2 | .gen => 3 | .prn => 4

def LineRate.code : LineRate → Nat
  | .r9600 => 0 | .r19200 => 1 | .r38400 => 2 | .r57600 => 3

def ResetKind.code : ResetKind → Nat
  | .cold => 0 | .warm => 1 | .stand => 2

/-- Status codes of R198. -/
def Status.code : Status → Byte
  | .ok => 0 | .unknownKind => 1 | .badField => 2 | .state => 3 | .busy => 4 | .full => 5 | .notFound => 6
  | .empty => 7 | .overLimit => 8 | .belowCommitted => 9 | .journalFull => 10 | .storeFull => 11 | .notResident => 12
  | .labelled => 13

/-! ### Records -/

/-- The fields of R1 but the item list, then queue position and items, as ORDER_READ lists them (R17). The number of items
present is the count byte of the item list and no byte of its own, which is the model's choice (log entry 12). -/
def putOrder (o : Order) (position : Option Nat) : List Byte :=
  putNat 2 o.id ++ putCode o.state.code ++ putOption (fun r => putCode (HoldReason.code r)) o.state.reason? ++
  putNat 1 o.account ++ putNat 1 o.cls ++ putEnum preferenceNames o.preference ++ putNat 1 o.stock ++
  putBracket o.bracket ++ putNat 1 o.template ++ putText o.lecturer ++ putOption putStation o.bound ++
  putOptNat 4 o.arrival ++ putNat 1 o.nextItem ++ putOptNat 1 position ++
  putList (fun i => putNat 1 i.number ++ putCode i.state.code ++ putNat 1 i.framesDone) o.items

/-- Every field of R2 (R18). -/
def putItem (i : Item) : List Byte :=
  putNat 1 i.number ++ putInt 1 i.offset ++ putNat 1 i.filter ++ putNat 1 i.copies ++ putText i.callNumber ++
  putOption putText i.title ++ putOption putText i.note ++ putCode i.state.code ++ putNat 1 i.framesDone

/-- The plan of R66. -/
def putPlan (p : ShotPlan) : List Byte :=
  putInt 2 p.required ++ putNat 1 p.pops ++ putNat 1 p.level ++ putInt 1 p.achieved ++ putInt 2 p.deviation ++
  putNat 2 p.energy ++ putFlag p.overFlag ++ putFlag p.underFlag

/-- The fields of an item context that STATION_READ reports (R23). No rule states the range of records reserved, so it takes
the bytes of the frame table's capacity, 1024 (R195). -/
def putContext (c : ItemContext) : List Byte :=
  putNat 2 c.order ++ putNat 1 c.item ++ putNat 1 c.entries.length ++ putNat 1 c.nextIndex ++ putNat 3 c.remaining ++
  putNat 2 c.records ++ putNat 1 c.retake ++ putFlag c.slotHeld ++ putCode c.request.code

def putCurrentPlan (p : CurrentPlan) : List Byte := putPlan p.plan ++ putNat 1 p.fired ++ putNat 1 p.confirmed

/-- Every field of R94 (R111). -/
def putRoll (r : Roll) : List Byte :=
  putNat 2 r.number ++ putOption putStation r.station ++ putNat 1 r.stock ++ putEnum backNames r.back ++
  putNat 1 r.capacity ++ putNat 1 r.next ++ putCode r.state.code ++
  putOption (fun f => putCode (FormerState.code f)) r.state.former? ++ putFlag r.short ++ putFlag r.openedInLight ++
  putFlag r.uncertainFrame ++ putOptNat 4 r.loadDate

/-- Every field of R104, each absent field marked absent (R111). -/
def putFrame (f : Frame) : List Byte :=
  let e := f.exposure
  putNat 2 f.roll ++ putNat 1 f.number ++ putCode f.kind.code ++ putOptNat 2 (e.map (·.order)) ++
  putOptNat 1 (e.map (·.item)) ++ putOptNat 1 (e.map (·.index)) ++ putOptNat 1 (e.map (·.kind.code)) ++
  putOptInt 1 (e.map (·.offset)) ++ putOptNat 1 (e.map (·.level)) ++ putOptNat 1 (e.map (·.pops)) ++
  putOptInt 1 (e.map (·.achieved)) ++ putOptInt 2 (e.map (·.deviation)) ++ putOption putFlag (e.map (·.overFlag)) ++
  putOption putFlag (e.map (·.underFlag)) ++ putFlag f.charged ++ putOptNat 4 f.date ++ putFlag f.suspect ++
  putCode f.verdict.code ++ putCode f.label.code ++ putFlag f.duplicateRisk ++ putFlag f.uncertain

def putRates (r : Rates) : List Byte := putNat 2 r.centre ++ putNat 2 r.bracket ++ putNat 2 r.copy ++ putNat 2 r.mount

/-- Every field of R134 (R142). -/
def putEntry (e : JournalEntry) : List Byte :=
  putNat 4 e.seq ++ putCode e.kind.code ++ putNat 1 e.account ++ putInt 3 e.amount ++ putOptNat 2 e.order ++
  putOptNat 1 e.item ++ putOptNat 2 e.roll ++ putOptNat 1 e.frame ++ putOptNat 4 e.date

/-- A job as LABEL_READ gives it (R154). -/
def putJob (j : LabelJob) : List Byte :=
  putNat 2 j.roll ++ putNat 1 j.frame ++ putNat 1 j.template ++ putFlag j.charge ++ putCode j.state.code ++
  putOptNat 1 j.state.seq? ++ putFlag j.lines.isSome

/-- Every field of a capture (R184, R188). -/
def putCapture (c : Option Capture) : List Byte :=
  putFlag c.isSome ++ putOptNat 1 (c.map (·.kind.code)) ++ putOptNat 4 (c.bind (·.date)) ++
  putOption putStation (c.bind (·.station)) ++ putOptNat 2 (c.bind (·.order)) ++ putOptNat 1 (c.bind (·.item)) ++
  putOptNat 2 (c.bind (·.roll)) ++ putOptNat 1 (c.bind (·.frame)) ++ putFlag ((c.map (·.further)).getD false)

/-- The power-level output: a level, or SAFE (R89). -/
def putPower : Power → List Byte
  | .safe => [0]
  | .level p => 1 :: putNat 1 p

/-! ### Replies and notices -/

/-- The fields of a reply after its status code, in the order of the rule that gives them (R195, R198). The rules leave some
layouts open, and these are the model's choices (log entry 12): the number of entries, records or stations that a rule
lists before them is the list's own count byte (R17, R70, R111, R125, R142, R182); a group of fields that are present
together has one presence byte, STATION_READ's item context (R23), its shot plan (R23, R66) and GEN_READ's grant holder
(R89), and every other optional field its own; TARIFF_READ gives the four classes in order, with no count byte, each with its
four rates and then its number of accounts (R120); TEMPLATE_READ gives its eight slots with no count byte, then, where an id
was asked for, a flag that is 1 for an id resident with content and 0 for any other, and the lines in the former case alone
(R161); FAULT_READ gives a station's in-FAULT flag, and cause, unfinished move and pull behind it only where it is 1
(R188). -/
def ReplyBody.bytes : ReplyBody → List Byte
  | .nothing => []
  | .committed c => putInt 7 c
  | .headroom h => putInt 7 h
  | .firstFrame n => putNat 1 n
  | .itemAdded n clamped => putNat 1 n ++ putFlag clamped
  | .arrival n => putNat 4 n
  | .order o position => putOrder o position
  | .item i => putItem i
  | .station x mode current foot context before =>
      putSettings x ++ putCode mode.code ++ putOption (fun r => putCode (StationHold.code r)) mode.hold? ++
      putOptNat 2 current ++ putFlag foot ++ putOption putContext context ++
      putOption putCurrentPlan (context.bind (·.plan)) ++ putOption (fun m => putCode (Mode.code m)) before
  | .footPending b => putFlag b
  | .planned bellows p surplus remainder =>
      putNat 1 bellows ++ putPlan p ++ putOptNat 1 surplus ++ putOptNat 1 remainder
  | .plannedAt bellows p => putNat 1 bellows ++ putPlan p
  | .plannedItem entries energy =>
      putList (fun e => putNat 1 e.position ++ putInt 1 e.entry.offset ++ putCode e.entry.kind.code ++
        putFlag e.exposed ++ putPlan e.plan) entries ++ putNat 2 energy
  | .generator mode output heat requests holder lastGrant =>
      putCode mode.code ++ putPower output ++ putNat 2 heat ++
      putList (fun r => putStation r.1.station ++ putNat 1 r.1.cls ++ putNat 2 r.1.energy ++ putFlag r.2) requests ++
      putOption (fun h => putStation (Holder.station h) ++ putNat 1 h.given ++ putFlag h.pending.isSome) holder ++
      putList putStation lastGrant
  | .stocks entries =>
      putList (fun e => putNat 1 e.1.code ++ putInt 1 e.1.speed ++ putText e.1.name ++ putNat 1 e.2) entries
  | .loaded roll capacity => putNat 2 roll ++ putNat 1 capacity
  | .frames roll records => putRoll roll ++ putList putFrame records
  | .changed n => putNat 2 n
  | .closed freed orders => putNat 2 freed ++ putNat 1 orders
  | .tariffs classes => classes.flatMap fun c => putRates c.1 ++ putNat 1 c.2
  | .account a total room orders remaining entries =>
      putText a.name ++ putNat 1 a.cls ++ putNat 4 a.limit ++ putNat 6 a.charged ++ putNat 6 a.mounted ++
      putInt 6 a.adjusted ++ putNat 3 a.reserved ++ putInt 7 total ++ putOptInt 7 room ++ putNat 1 orders ++
      putList (putNat 3) remaining ++ putNat 2 entries
  | .adjusted total seq => putInt 7 total ++ putNat 4 seq
  | .journal count reserved free next entries =>
      putNat 2 count ++ putNat 1 reserved ++ putNat 2 free ++ putNat 5 next ++ putList putEntry entries
  | .released removed count oldest => putNat 2 removed ++ putNat 2 count ++ putOptNat 4 oldest
  | .clockWas value => putNat 4 value
  | .clock value date time => putNat 4 value ++ putOption putText date ++ putOption putText time
  | .labelsQueued queued left => putNat 1 queued ++ putNat 2 left
  | .labelPosition n => putNat 1 n
  | .labelsCancelled removed sent => putNat 1 removed ++ putNat 1 sent
  | .labels count sent head jobs =>
      putNat 1 count ++ putNat 1 sent ++ putOptNat 1 (head.map (·.position)) ++
      putOptNat 1 (head.map fun h => if h.waiting then 1 else 0) ++ putList putJob jobs
  | .templateSlot slot evicted => putNat 1 slot ++ putOptNat 1 evicted
  | .templates slots asked resident lines =>
      slots.flatMap (fun x => putOptNat 1 x.1.tag ++ putFlag x.1.locked ++ putFlag x.1.content.isSome ++
        putOptNat 1 x.2) ++
      (if asked then putFlag resident else []) ++
      (match lines with
       | some l => putList (putList putPiece) l
       | none => [])
  | .linkState s => putCode s.code
  | .printer s enabled window nextSeq paused inFlight asked =>
      putCode s.code ++ putFlag enabled ++ putNat 1 window ++ putNat 1 nextSeq ++ putFlag paused ++
      putList (fun e => putNat 2 e.roll ++ putNat 1 e.frame ++ putNat 1 e.seq ++ putFlag e.slotHeld) inFlight ++
      putFlag asked
  | .stationCapture c memory inFault pulling =>
      putCapture c ++ putFlag inFault ++
      (match inFault, memory with
       | true, some m => putCode m.cause.code ++ putFlag m.unfinished ++ putFlag pulling
       | _, _ => [])
  | .genCapture c mode => putCapture c ++ putCode mode.code
  | .prnCapture c s => putCapture c ++ putCode s.code
  | .ident revision => putText [0x43, 0x4C, 0x4D] ++ putText [0x53, 0x43, 0x33] ++ putNat 1 revision
  | .status noticeOverflow requestOverflow notices replies rate last =>
      putFlag noticeOverflow ++ putFlag requestOverflow ++ putNat 1 notices ++ putNat 1 replies ++ putCode rate.code ++
      putCode last.code

/-- Kind byte of a notice, 128 to 140 (R202). -/
def Notice.kindByte : Notice → Byte
  | .start .. => 128 | .stationState .. => 129 | .itemReady .. => 130 | .itemDone .. => 131 | .orderHeld .. => 132
  | .orderDone .. => 133 | .rollFull .. => 134 | .rollOut .. => 135 | .rollLabelled .. => 136
  | .generatorState .. => 137 | .templateNeeded .. => 138 | .journalHigh .. => 139 | .fault .. => 140

/-- The fields of a notice, in the order of R200. -/
def Notice.bytes : Notice → List Byte
  | .start kind carried => putCode kind.code ++ putNat 1 carried
  | .stationState st mode current =>
      putStation st ++ putCode mode.code ++ putOption (fun r => putCode (StationHold.code r)) mode.hold? ++
      putOptNat 2 current
  | .itemReady st order item callNumber => putStation st ++ putNat 2 order ++ putNat 1 item ++ putText callNumber
  | .itemDone st order item state done =>
      putStation st ++ putNat 2 order ++ putNat 1 item ++ putCode state.code ++ putNat 1 done
  | .orderHeld order reason => putNat 2 order ++ putCode reason.code
  | .orderDone order => putNat 2 order
  | .rollFull roll st capacity frames short =>
      putNat 2 roll ++ putStation st ++ putNat 1 capacity ++ putNat 1 frames ++ putFlag short
  | .rollOut roll st frames short openedInLight uncertainFrame =>
      putNat 2 roll ++ putStation st ++ putNat 1 frames ++ putFlag short ++ putFlag openedInLight ++
      putFlag uncertainFrame
  | .rollLabelled roll => putNat 2 roll
  | .generatorState mode heat => putCode mode.code ++ putNat 2 heat
  | .templateNeeded template roll frame => putNat 1 template ++ putNat 2 roll ++ putNat 1 frame
  | .journalHigh count reserved oldest => putNat 2 count ++ putNat 1 reserved ++ putNat 4 oldest
  | .fault unit kind => putCode unit.code ++ putCode kind.code

/-- Fields as a frame with room for `n` bytes carries them: their bytes where they fit, else a free value that does (R195,
log entry 29). -/
def fitted (n : Nat) (bs : List Byte) : List Byte := if bs.length ≤ n then bs else (Config.freePayload bs).take n

/-- The payload of a frame on the host link: a reply's status code and its fields, or a notice's fields (R195, R198). -/
def OutFrame.payload : OutFrame → List Byte
  | .reply r => r.status.code :: fitted (Config.maxPayload - 1) r.body.bytes
  | .notice n => fitted Config.maxPayload n.bytes

/-- The bytes of a frame on the host link (R195, R198, R199): a reply carries the tag and kind of its request, a notice
carries tag 0. -/
def OutFrame.bytes (f : OutFrame) : List Byte :=
  match f with
  | .reply r => hostFrame r.kind r.tag f.payload
  | .notice n => hostFrame n.kindByte 0 f.payload

/-! ### The printer line (R169) -/

/-- The sequence character of 0..15: '0' to '9', 'A' to 'F'. -/
def sequenceChar (n : Nat) : Byte := if n < 10 then BitVec.ofNat 8 (0x30 + n) else BitVec.ofNat 8 (0x41 + (n - 10))

/-- The parity bit of a character sent: it makes the number of ones of the nine bits odd (R169). -/
def oddParity (b : Byte) : Bool := ((List.range 8).filter fun i => b.getLsbD i).length % 2 == 0

/-- Characters as they stand on the printer line, each with its parity bit set (R169). -/
def onLine (bs : List Byte) : List LineChar := bs.map fun b => { data := b, parity := oddParity b }

/-- A frame of the printer line: STX, sequence character, kind, data, ETX and the XOR of all from the sequence character
to the ETX. -/
def printerFrame (seq : Nat) (kind : Byte) (data : List Byte) : List Byte :=
  let body := sequenceChar seq :: kind :: (data ++ [0x03])
  0x02 :: (body ++ [body.foldl (· ^^^ ·) 0])

/-- A P frame: each line followed by LF. -/
def printFrame (seq : Nat) (lines : List Text) : List Byte :=
  printerFrame seq 0x50 (lines.flatMap fun l => l ++ [0x0A])

/-- A Q frame; it carries the next printer sequence number and does not consume it. -/
def askFrame (seq : Nat) : List Byte := printerFrame seq 0x51 []

end Sys2Proof.Machine
end

