-- ==== Sys2Proof/Machine/Ops.lean ====
section
/-! DEFINITION. The named operations every block uses: reading and writing a block, outputs, notices and replies (R197,
R199, R200), and the two shapes of a command: an event, and a host request. -/

namespace Sys2Proof.Machine

/-! ### Blocks -/

def PerStation.get {α : Type} (p : PerStation α) : Station → α
  | .a => p.a
  | .b => p.b
  | .d => p.d

def PerStation.modify {α : Type} (p : PerStation α) (f : α → α) : Station → PerStation α
  | .a => { p with a := f p.a }
  | .b => { p with b := f p.b }
  | .d => { p with d := f p.d }

/-- The stations in the order A, B, D. -/
def allStations : List Station := [.a, .b, .d]

def State.seq (s : State) (st : Station) : Sequencer := s.seqs.get st
def State.drive (s : State) (st : Station) : Drive := s.drives.get st

def State.modLnk (f : Lnk → Lnk) (s : State) : State := { s with lnk := f s.lnk }
def State.modOrd (f : Ord → Ord) (s : State) : State := { s with ord := f s.ord }
def State.modSeq (st : Station) (f : Sequencer → Sequencer) (s : State) : State :=
  { s with seqs := s.seqs.modify f st }
def State.modDrive (st : Station) (f : Drive → Drive) (s : State) : State :=
  { s with drives := s.drives.modify f st }
def State.modGen (f : Gen → Gen) (s : State) : State := { s with gen := f s.gen }
def State.modRol (f : Rol → Rol) (s : State) : State := { s with rol := f s.rol }
def State.modAcc (f : Acc → Acc) (s : State) : State := { s with acc := f s.acc }
def State.modJnl (f : Jnl → Jnl) (s : State) : State := { s with jnl := f s.jnl }
def State.modClk (f : Clk → Clk) (s : State) : State := { s with clk := f s.clk }
def State.modLbl (f : Lbl → Lbl) (s : State) : State := { s with lbl := f s.lbl }
def State.modPrn (f : Prn → Prn) (s : State) : State := { s with prn := f s.prn }
def State.modFlt (f : Flt → Flt) (s : State) : State := { s with flt := f s.flt }

/-- Put something on a line that holds no level. -/
def State.emit (o : Output) (s : State) : State := { s with outputs := s.outputs ++ [o] }

/-- Count one use of a free value. -/
def State.useFree (s : State) : State := { s with free := s.free + 1 }

/-- The day-clock value a stamping event puts into a date field, absent while the clock is 0 (R147). -/
def State.stamp (s : State) : Option Nat := if s.clk.minutes = 0 then none else some s.clk.minutes

/-- A function applied to the members of a list that satisfy a test. -/
def updateWhere {α : Type} (p : α → Bool) (f : α → α) (l : List α) : List α :=
  l.map fun a => if p a then f a else a

/-! ### Notices, replies and the transmitter -/

/-- A notice joins the queue, or is dropped at 32 and the notice-overflow flag set (R200). -/
def Lnk.raise (n : Notice) (l : Lnk) : Lnk :=
  if l.notices.length < Config.maxNotices then { l with notices := l.notices ++ [n] }
  else { l with noticeOverflow := true }

/-- Raise a notice (R200). -/
def State.raise (n : Notice) (s : State) : State := s.modLnk (Lnk.raise n)

/-- Raise notices one after another. -/
def State.raiseAll (ns : List Notice) (s : State) : State := s.modLnk fun l => ns.foldl (fun l n => l.raise n) l

/-- Place a reply at the end of the reply list (R197). -/
def State.placeReply (r : Reply) (s : State) : State := s.modLnk fun l => { l with replies := l.replies ++ [r] }

/-- The frame a free transmitter chooses: the oldest reply, else the oldest notice (R199). -/
def Lnk.choice (l : Lnk) : Option (OutFrame × Lnk) :=
  match l.replies with
  | r :: rest => some (.reply r, { l with replies := rest })
  | [] => match l.notices with
    | n :: rest => some (.notice n, { l with notices := rest })
    | [] => none

/-- What the transmitter begins to send: nothing while it is busy, else its choice (R199). -/
def Lnk.begins (l : Lnk) : Option (OutFrame × Lnk) :=
  match l.transmitter with
  | some _ => none
  | none => l.choice

/-- LNK once a free transmitter has begun to send: the frame leaves its list as sending begins (R199). -/
def Lnk.begun (l : Lnk) : Lnk :=
  match l.begins with
  | some (f, l) => { l with transmitter := some f }
  | none => l

/-- The frame that a free transmitter begins to send, as an output. -/
def Lnk.begunOutputs (l : Lnk) : List Output :=
  match l.begins with
  | some (f, _) => [.hostFrame f.bytes]
  | none => []

/-- A free transmitter begins to send its choice (R199). -/
def State.transmit (s : State) : State :=
  { s with lnk := s.lnk.begun, outputs := s.outputs ++ s.lnk.begunOutputs }

/-! ### Shapes of a command -/

/-- An event: what it does, from a state whose record of outputs is empty, and then the transmitter's choice
(log entry 4). -/
def event (f : State → State) (s : State) : Host.Outcome State Fault Refusal :=
  .next (f { s with outputs := [] }).transmit

/-- What the owner of a request answers: the state after it, the status, the fields of the reply. -/
structure Answer where
  state : State
  status : Status
  body : ReplyBody
deriving DecidableEq, Repr

/-- The request is taken. -/
def taken (s : State) (body : ReplyBody := .nothing) : Answer := { state := s, status := .ok, body := body }

/-- The request is refused: no state changes (spec/00, Refusals). -/
def refuse (s : State) (status : Status) (body : ReplyBody := .nothing) : Answer :=
  { state := s, status := status, body := body }

/-- The receiver after a good frame: HUNTING, its gap timer stopped (R196). -/
def State.frameTaken (s : State) : State := s.modLnk fun l => { l with receiver := .hunting, gapTimer := none }

/-- A good frame taken as a request (R197): discarded with tag 0; discarded with the request-overflow flag at 8 replies;
else the answer's reply is placed at the same event. -/
def takeRequest (kind tag : Byte) (answer : State → Answer) (s : State) : State :=
  let s := s.frameTaken
  if tag = 0 then s
  else if Config.maxReplies ≤ s.lnk.replies.length then s.modLnk fun l => { l with requestOverflow := true }
  else
    let a := answer s
    a.state.placeReply { tag := tag, kind := kind, status := a.status, body := a.body }

/-- A request taken with its payload: a malformed one is answered BAD_FIELD (R197 step 3), else the owner answers. -/
def takePayload {α : Type} (kind : RequestKind) (tag : Byte) (p : Payload α) (owner : α → State → Answer) (s : State) :
    State :=
  takeRequest kind.code tag (fun t =>
    match p with
    | .fields f => owner f t
    | .malformed => refuse t .badField) s

/-- A host request as a command. -/
def request {α : Type} (kind : RequestKind) (tag : Byte) (p : Payload α) (owner : α → State → Answer) (s : State) :
    Host.Outcome State Fault Refusal :=
  event (takePayload kind tag p owner) s

end Sys2Proof.Machine
end

