-- ==== Sys2Proof/Machine/OrderTable.lean ====
section
/-! DEFINITION. The order table, the item pool and the queue (R1, R2, R6, R7, R9, R10, R16). -/

namespace Sys2Proof.Machine

/-! ### Orders and items -/

/-- The order of an id, when one is present (R1). -/
def State.order? (s : State) (id : Nat) : Option Order := s.ord.orders.find? fun o => o.id == id

/-- Change the order of an id. -/
def State.modOrder (id : Nat) (f : Order → Order) (s : State) : State :=
  s.modOrd fun t => { t with orders := updateWhere (fun o => o.id == id) f t.orders }

/-- Item records of the pool in use (R2). -/
def Ord.itemsUsed (t : Ord) : Nat := (t.orders.map fun o => o.items.length).sum

/-- The item of a number in an order (R2). -/
def Order.item? (o : Order) (n : Nat) : Option Item := o.items.find? fun i => i.number == n

/-- The item at the next item index, a position counted from 1 (R1). -/
def Order.nextItem? (o : Order) : Option Item := if o.nextItem = 0 then none else o.items[o.nextItem - 1]?

/-- Change an item of an order. -/
def Order.modItem (n : Nat) (f : Item → Item) (o : Order) : Order :=
  { o with items := updateWhere (fun i => i.number == n) f o.items }

/-- Change an item of the order of an id. -/
def State.modItem (id n : Nat) (f : Item → Item) (s : State) : State := s.modOrder id (Order.modItem n f)

/-- Whether an order is HELD (R1). -/
def OrderState.isHeld : OrderState → Bool
  | .held _ => true
  | _ => false

/-- Whether an item is still to be worked on: PENDING or IN_PROGRESS (R9). -/
def ItemState.outstanding : ItemState → Bool
  | .pending | .inProgress => true
  | .done | .skipped => false

/-- Whether the order of an id is ACTIVE. -/
def State.orderActive (s : State) (id : Nat) : Bool :=
  match s.order? id with
  | some o => o.state == .active
  | none => false

/-! ### The queue (R6, R7) -/

/-- Members of the queue: the orders in WAITING or HELD (R6). -/
def Order.queued (o : Order) : Bool := o.state == .waiting || o.state.isHeld

/-- Queue order: the higher class first, among equal classes the lower arrival number (R6). -/
abbrev Order.before (a b : Order) : Prop :=
  b.cls < a.cls ∨ (a.cls = b.cls ∧ a.arrival.getD 0 ≤ b.arrival.getD 0)

/-- An order put at its place in a list that is in queue order. -/
def queueInsert (o : Order) : List Order → List Order
  | [] => [o]
  | p :: ps => if o.before p then o :: p :: ps else p :: queueInsert o ps

/-- Orders sorted into queue order. -/
def queueSort : List Order → List Order
  | [] => []
  | o :: os => queueInsert o (queueSort os)

/-- The queue (R6). -/
def Ord.queue (t : Ord) : List Order := queueSort (t.orders.filter Order.queued)

/-- The position of an order in the queue, 1 for the first (R17). -/
def Ord.position? (t : Ord) (id : Nat) : Option Nat :=
  (t.queue.findIdx? fun o => o.id == id).map (· + 1)

/-- The stations a preference admits (R7). -/
def admits : Preference → Station → Bool
  | .any, _ => true
  | .column, .a => true
  | .column, .b => true
  | .column, .d => false
  | .a, st => st == .a
  | .b, st => st == .b
  | .d, st => st == .d

/-- Eligibility of a WAITING order for a station whose roll has the stock given (R7). -/
def Order.eligible (o : Order) (st : Station) (stock : Nat) : Bool :=
  o.state == .waiting && o.stock == stock && admits o.preference st && (o.bound == none || o.bound == some st)

/-! ### Progress (R9, R10, R16) -/

/-- An order becomes HELD with a reason, and ORD queues ORDER_HELD (R10, R12). -/
def State.holdOrder (id : Nat) (reason : HoldReason) (s : State) : State :=
  (s.modOrder id fun o => { o with state := .held reason }).raise (.orderHeld id reason)

/-- A station's hold report: an ACTIVE order becomes HELD (R10). -/
def State.holdIfActive (id : Nat) (reason : HoldReason) (s : State) : State :=
  if s.orderActive id then s.holdOrder id reason else s

/-- The position, after that of the item ended, of the next item in PENDING or IN_PROGRESS, or one past the last (R9). -/
def Order.indexAfter (o : Order) : Nat :=
  match (o.items.drop o.nextItem).findIdx? fun i => i.state.outstanding with
  | some k => o.nextItem + k + 1
  | none => o.items.length + 1

/-- An item ends DONE or SKIPPED, and the next item index moves on (R9). -/
def Order.endItem (n : Nat) (e : ItemState) (o : Order) : Order :=
  let o := o.modItem n fun i => { i with state := e }
  { o with nextItem := o.indexAfter }

/-- Whether an order has an item left: its next item index is not past the last position (R1, R9). -/
def Order.itemsLeft (o : Order) : Bool := decide (o.nextItem ≤ o.items.length)

/-- Whether any frame record names the order, by its id (R16). A frame recorded SPOILED after its order was cancelled and freed
keeps that id, so it also names an order opened later with the same id; a DRAFT of that id is then not freed by ORDER_CANCEL,
as R15 says every DRAFT is, but stays CANCELLED. The rules do not meet there, and this is the model's choice (log entry 9). -/
def State.named (s : State) (id : Nat) : Bool :=
  s.rol.frames.any fun f => match f.exposure with
    | some e => e.order == id
    | none => false

/-- Whether an order is at its end: EXPOSED or CANCELLED (R16). -/
def Order.ended (o : Order) : Bool := o.state == .exposed || o.state == .cancelled

/-- Whether ORD frees the order of an id: it is EXPOSED or CANCELLED and no frame record names it (R16). -/
def State.frees (s : State) (id : Nat) : Bool :=
  match s.order? id with
  | some o => o.ended && !s.named id
  | none => false

/-- Free the order of an id where R16 says so: it leaves the table, its items return to the pool. -/
def State.freeOrder (id : Nat) (s : State) : State :=
  if s.frees id then s.modOrd fun t => { t with orders := t.orders.filter fun o => !(o.id == id) } else s

/-- The order becomes EXPOSED, ORDER_DONE is queued, and it is freed where nothing names it (R9, R16). -/
def State.exposeOrder (id : Nat) (s : State) : State :=
  ((s.modOrder id fun o => { o with state := .exposed }).raise (.orderDone id)).freeOrder id

end Sys2Proof.Machine
end

