-- ==== Sys2Proof/Machine/Journal.lean ====
section
/-! DEFINITION. The charge journal: reservation, hand-back, append, room reports (R135 to R141). -/

namespace Sys2Proof.Machine

/-- Free slots: neither filled nor reserved (R135). -/
def Jnl.free (j : Jnl) : Nat := Config.maxJournal - j.entries.length - j.reserved

/-- Sequence numbers left (R136). -/
def Jnl.numbersLeft (j : Jnl) : Nat := Config.maxSequence - j.next

/-- A reservation or an ADJUST finds a slot: one is free, and the numbers left exceed the reservation count
(R136, R137). -/
abbrev Jnl.hasRoom (j : Jnl) : Prop := 0 < j.free ∧ j.reserved < j.numbersLeft

/-- One slot reserved (R137). -/
def State.reserveSlot (s : State) : State := s.modJnl fun j => { j with reserved := j.reserved + 1 }

/-- Whether a station waits for a slot: HELD with JOURNAL_FULL and its order ACTIVE (R22, R140). -/
def State.waitsForSlot (s : State) (st : Station) : Bool :=
  (s.seq st).mode == .held .journalFull &&
  match (s.seq st).current with
  | some id => s.orderActive id
  | none => false

/-- The room report: every waiting writer is told, and asks again at an event of its own (R140). -/
def State.roomReport (s : State) : State :=
  let tell (st : Station) (t : State) : State :=
    if s.waitsForSlot st then t.modSeq st fun q => { q with roomReport := true } else t
  (tell .d (tell .b (tell .a s))).modPrn fun p => if p.paused then { p with roomReport := true } else p

/-- A reserved slot handed back unfilled (R137, R140). -/
def State.handBackSlot (s : State) : State :=
  (s.modJnl fun j => { j with reserved := j.reserved - 1 }).roomReport

/-- JOURNAL_HIGH as the journal stands (R141). -/
def Jnl.highNotice (j : Jnl) : Notice :=
  .journalHigh j.entries.length j.reserved ((j.entries.head?.map JournalEntry.seq).getD 0)

/-- The journal with an entry of the next sequence number at its end (R136). `fills` says that it fills a reserved slot.
R135 and R137 leave a slot for every append; with none, in no run, there is nothing to fill (log entry 30). -/
def Jnl.append (fills : Bool) (e : Nat → JournalEntry) (j : Jnl) : Jnl :=
  if j.entries.length < Config.maxJournal then
    { entries := j.entries ++ [e j.next], reserved := if fills then j.reserved - 1 else j.reserved, next := j.next + 1 }
  else j

/-- Append an entry; the count reaching 192 from 191 queues JOURNAL_HIGH (R136, R141). -/
def State.appendEntry (fills : Bool) (e : Nat → JournalEntry) (s : State) : State :=
  let s := s.modJnl (Jnl.append fills e)
  if s.jnl.entries.length = Config.journalHighMark then s.raise s.jnl.highNotice else s

end Sys2Proof.Machine
end

