-- ==== Sys2Proof/Machine/Accounts.lean ====
section
/-! DEFINITION. The account unit: committed amounts, reservations and postings (R121, R122, R126 to R131). -/

namespace Sys2Proof.Machine

/-- The account of a slot, when present (R121). -/
def State.account? (s : State) (slot : Nat) : Option Account := s.acc.accounts.find? fun a => a.slot == slot

/-- Change the account of a slot. -/
def State.modAccount (slot : Nat) (f : Account → Account) (s : State) : State :=
  s.modAcc fun t => { t with accounts := updateWhere (fun a => a.slot == slot) f t.accounts }

/-- The rates of a tariff class (R118). -/
def Tariffs.get (t : Tariffs) : Nat → Rates
  | 1 => t.class1
  | 2 => t.class2
  | 3 => t.class3
  | _ => t.class4

/-- Replace the rates of a tariff class (R119). -/
def Tariffs.set (t : Tariffs) (cls : Nat) (r : Rates) : Tariffs :=
  match cls with
  | 1 => { t with class1 := r }
  | 2 => { t with class2 := r }
  | 3 => { t with class3 := r }
  | _ => { t with class4 := r }

/-- The committed amount: charged + adjusted + reserved (R122). -/
def Account.committed (a : Account) : Int := (a.charged : Int) + a.adjusted + (a.reserved : Int)

/-- An amount is within the limit: the limit is 0 or not exceeded (R122). -/
abbrev Account.withinLimit (a : Account) (amount : Int) : Prop := a.limit = 0 ∨ amount ≤ (a.limit : Int)

/-- The headroom, absent with no limit (R125). -/
def Account.headroom (a : Account) : Option Int := if a.limit = 0 then none else some ((a.limit : Int) - a.committed)

/-- Highest value of charged and of mounted (R121). -/
def maxMoney : Nat := 140737488355327

/-- A sum of charged or mounted: its value within the range of R121, else a free value of that range (log entry 8). -/
def moneySum (free : Nat) (n : Nat) : Nat := if n ≤ maxMoney then n else (Config.freeMoney free).toNat % (maxMoney + 1)

/-- The range of adjusted (R121). -/
abbrev adjustedInRange (z : Int) : Prop := -((maxMoney : Int) + 1) ≤ z ∧ z ≤ (maxMoney : Int)

/-- A sum of adjusted: its value within the range of R121, else a free value of that range (log entry 8). -/
def adjustedSum (free : Nat) (z : Int) : Int :=
  if adjustedInRange z then z else (Config.freeMoney free).toInt

/-- The snapshot of an account's tariff class (R126). -/
def State.snapshot (s : State) (a : Account) : RateSnapshot :=
  let r := s.acc.tariffs.get a.cls
  { centre := r.centre, bracket := r.bracket, copy := r.copy }

/-- The rate of a tariff kind (R126). -/
def RateSnapshot.rate (r : RateSnapshot) : TariffKind → Nat
  | .centre => r.centre
  | .bracket => r.bracket
  | .copy => r.copy

/-- The cost of entries at the rates of a snapshot (R126). -/
def RateSnapshot.cost (r : RateSnapshot) (es : List Entry) : Nat := (es.map fun e => r.rate e.kind).sum

/-- A reservation made (R127). -/
def State.reserveMoney (slot cost : Nat) (s : State) : State :=
  s.modAccount slot fun a => { a with reserved := a.reserved + cost }

/-- A remaining reservation released (R128). -/
def State.releaseMoney (slot amount : Nat) (s : State) : State :=
  s.modAccount slot fun a => { a with reserved := a.reserved - amount }

/-- The account side of an exposure posting: the rate moves from reserved to charged (R129). -/
def State.chargeAccount (slot rate : Nat) (s : State) : State :=
  let t := s.modAccount slot fun a =>
    { a with reserved := a.reserved - rate, charged := moneySum s.free (a.charged + rate) }
  match s.account? slot with
  | some a => if a.charged + rate ≤ maxMoney then t else t.useFree
  | none => t

/-- The account side of a mount posting (R130). -/
def State.mountAccount (slot rate : Nat) (s : State) : State :=
  let t := s.modAccount slot fun a => { a with mounted := moneySum s.free (a.mounted + rate) }
  match s.account? slot with
  | some a => if a.mounted + rate ≤ maxMoney then t else t.useFree
  | none => t

/-- The account side of an ADJUST (R131). -/
def State.adjustAccount (slot : Nat) (amount : Int) (s : State) : State :=
  let t := s.modAccount slot fun a => { a with adjusted := adjustedSum s.free (a.adjusted + amount) }
  match s.account? slot with
  | some a => if adjustedInRange (a.adjusted + amount) then t else t.useFree
  | none => t

end Sys2Proof.Machine
end

