-- ==== Sys2Proof/Machine/Faults.lean ====
section
/-! DEFINITION. Fault capture: filling, locking, emptying (R184, R186, R189). -/

namespace Sys2Proof.Machine

/-- The unit of a station (R184). -/
def stationUnit : Station → Unit5
  | .a => .stationA
  | .b => .stationB
  | .d => .stationD

def Flt.get (f : Flt) : Unit5 → Option Capture
  | .stationA => f.stationA
  | .stationB => f.stationB
  | .stationD => f.stationD
  | .gen => f.gen
  | .prn => f.prn

def Flt.set (f : Flt) (u : Unit5) (c : Option Capture) : Flt :=
  match u with
  | .stationA => { f with stationA := c }
  | .stationB => { f with stationB := c }
  | .stationD => { f with stationD := c }
  | .gen => { f with gen := c }
  | .prn => { f with prn := c }

/-- A capture of a kind with none of the optional fields. -/
def bareCapture (kind : FaultKind) : Capture :=
  { kind := kind, date := none, station := none, order := none, item := none, roll := none, frame := none,
    further := false }

/-- A block asks FLT to capture a fault: an empty capture is filled with it and the date, locks, and FAULT is queued; a
locked one has its further-faults flag set (R186). -/
def State.capture (u : Unit5) (c : Capture) (s : State) : State :=
  match s.flt.get u with
  | none =>
    (s.modFlt fun f => f.set u (some { c with date := s.stamp, further := false })).raise (.fault u c.kind)
  | some old => s.modFlt fun f => f.set u (some { old with further := true })

end Sys2Proof.Machine
end

