-- ==== Sys2Proof/Machine/Film.lean ====
section
/-! DEFINITION. Rolls, the frame table and the film drives (R92 to R110, R113). -/

namespace Sys2Proof.Machine

/-! ### Rolls -/

/-- The roll of a number, when present (R94). -/
def State.roll? (s : State) (n : Nat) : Option Roll := s.rol.rolls.find? fun r => r.number == n

/-- The roll in a station's back (R95). -/
def State.rollAt (s : State) (st : Station) : Option Roll := s.rol.rolls.find? fun r => r.station == some st

/-- Change the roll of a number. -/
def State.modRoll (n : Nat) (f : Roll → Roll) (s : State) : State :=
  s.modRol fun t => { t with rolls := updateWhere (fun r => r.number == n) f t.rolls }

/-- The remaining frames of a roll: capacity − next frame + 1 (R94). -/
def Roll.remaining (r : Roll) : Nat := r.capacity + 1 - r.next

/-- The roll's end is recorded: next frame exceeds capacity (R107). -/
def Roll.ended (r : Roll) : Bool := decide (r.capacity < r.next)

/-- Every truncation sets the capacity to next frame − 1, which records the end (R94, R107). -/
def Roll.truncate (r : Roll) : Roll := { r with capacity := r.next - 1 }

/-- The roll in a station's back has its end recorded. -/
def State.endReached (s : State) (st : Station) : Bool :=
  match s.rollAt st with
  | some r => r.ended
  | none => false

/-- The speed of a present stock (R92). -/
def State.speed? (s : State) (code : Nat) : Option Int :=
  (s.rol.stocks.find? fun k => k.code == code).map Stock.speed

/-- Capacity of a roll by its back type (R94). -/
def backCapacity : BackType → Nat
  | .cassette => 36
  | .bulk => 250

/-- The number after `n`: 1 after 9999 (R96). -/
def rollNumberAfter (n : Nat) : Nat := if 9999 ≤ n then 1 else n + 1

/-- The first number, counting on from `n`, that none of the numbers `used` is, within `fuel` steps more than one
(R96). -/
def freeRollNumber : Nat → Nat → List Nat → Nat
  | 0, n, _ => rollNumberAfter n
  | fuel + 1, n, used =>
    if rollNumberAfter n ∈ used then freeRollNumber fuel (rollNumberAfter n) used else rollNumberAfter n

/-! ### Frame records -/

/-- The frame records of a roll, in frame order, which is the order of recording (R94, R105). -/
def State.framesOf (s : State) (n : Nat) : List Frame := s.rol.frames.filter fun f => f.roll == n

/-- The record of a frame. -/
def State.frame? (s : State) (n k : Nat) : Option Frame := s.rol.frames.find? fun f => f.roll == n && f.number == k

/-- Change the record of a frame. -/
def State.modFrame (n k : Nat) (f : Frame → Frame) (s : State) : State :=
  s.modRol fun t => { t with frames := updateWhere (fun x => x.roll == n && x.number == k) f t.frames }

/-- Room for `k` more reserved records (R103). -/
abbrev Rol.hasRoom (t : Rol) (k : Nat) : Prop := t.frames.length + t.reserved + k ≤ Config.maxFrames

/-- `k` records reserved (R103). -/
def State.reserveRecords (k : Nat) (s : State) : State := s.modRol fun t => { t with reserved := t.reserved + k }

/-- `k` reserved records returned (R103). -/
def State.returnRecords (k : Nat) (s : State) : State := s.modRol fun t => { t with reserved := t.reserved - k }

/-- The record that recording creates (R104, R105). -/
def newFrame (r : Roll) (kind : FrameKind) (e : Option Exposure) (date : Option Nat) : Frame :=
  { roll := r.number, number := r.next, kind := kind, exposure := e, charged := kind == .exposed, date := date
    suspect := false
    verdict := match kind with
      | .separator | .recovery => .discard
      | .exposed | .spoiled => .none
    label := .none, duplicateRisk := false, uncertain := false }

/-- The tables once a frame of a roll is recorded: the record, and the roll's next frame one higher. A RECOVERY frame uses a
free record, every other kind a reserved one (R103, R105). The reservations of R29 and R103 leave a frame of the roll and a
record of the table for every recording; with either gone, in no run, there is nothing to record (log entry 30). -/
def Rol.record (r : Roll) (kind : FrameKind) (e : Option Exposure) (date : Option Nat) (t : Rol) : Rol :=
  if r.next ≤ r.capacity ∧ t.frames.length < Config.maxFrames then
    { t with frames := t.frames ++ [newFrame r kind e date]
             reserved := if kind = .recovery then t.reserved else t.reserved - 1
             rolls := updateWhere (fun x => x.number == r.number) (fun x => { x with next := x.next + 1 }) t.rolls }
  else t

/-- Recording a frame on a roll (R105). -/
def State.recordFrame (r : Roll) (kind : FrameKind) (e : Option Exposure) (s : State) : State :=
  s.modRol (Rol.record r kind e s.stamp)

/-- Kind of the roll's last recorded frame, absent with no frame (R106). -/
def State.lastKind (s : State) (n : Nat) : Option FrameKind := (s.framesOf n).getLast?.map Frame.kind

/-- The order of the highest-numbered frame of the roll that names one (R106). -/
def State.lastNamed (s : State) (n : Nat) : Option Nat :=
  ((s.framesOf n).filterMap fun f => f.exposure.map Exposure.order).getLast?

/-! ### ROLL_LABELLED (R113) -/

/-- A frame that CLOSE_ROLL needs no FORCE for: DISCARD, or KEEP with its label PRINTED (R113, R114). -/
def Frame.settled (f : Frame) : Bool := f.verdict == .discard || (f.verdict == .keep && f.label == .printed)

/-- The condition of ROLL_LABELLED: the roll is OUT and every frame of it settled (R113). -/
def State.labelled (s : State) (n : Nat) : Bool :=
  (match s.roll? n with
   | some r => r.state == .out
   | none => false) && (s.framesOf n).all Frame.settled

/-- The test of R113 after an event: the notice is queued when the condition holds now and did not before. -/
def State.testLabelled (n : Nat) (before : Bool) (s : State) : State :=
  if s.labelled n && !before then s.raise (.rollLabelled n) else s

/-! ### Rolls becoming FULL and OUT -/

/-- The roll becomes FULL, and ROLL_FULL is queued (R101, R107). -/
def State.rollFull (r : Roll) (st : Station) (s : State) : State :=
  (s.modRoll r.number fun x => { x with state := .full }).raise
    (.rollFull r.number st r.capacity (r.next - 1) r.short)

/-- The roll leaves the back and becomes OUT with the changes `f`: ROLL_OUT is queued and R113 tested (R110, R117). -/
def State.rollOut (n : Nat) (st : Station) (f : Roll → Roll) (s : State) : State :=
  let before := s.labelled n
  let s := s.modRoll n fun r => { f r with state := .out, station := none }
  match s.roll? n with
  | some r => (s.raise (.rollOut n st (r.next - 1) r.short r.openedInLight r.uncertainFrame)).testLabelled n before
  | none => s

/-! ### Drives -/

/-- Motor and both timers stopped, no move in progress (R98). -/
def Drive.stop (d : Drive) : Drive :=
  { d with move := none, motor := .stopped, advanceTimer := none, rewindTimer := none }

/-- A leader frame, advance or recovery pull starts (R98). -/
def Drive.start (m : Move) (d : Drive) : Drive :=
  { d with move := some m, pulses := 0, motor := .forward, advanceTimer := some Config.advanceTimeout }

/-- A rewind starts (R101). -/
def Drive.startRewind (d : Drive) : Drive :=
  { d with move := some .rewind, motor := .reverse, rewindTimer := some Config.rewindTimeout }

/-- Whether a move is one that pulses count for: a leader frame, an advance or a recovery pull (R98). -/
def Drive.pulling (d : Drive) : Bool :=
  match d.move with
  | some .leader | some .advance | some .recovery => true
  | some .rewind | none => false

end Sys2Proof.Machine
end

