-- ==== Sys2Proof/Machine/Operands.lean ====
section
/-! DEFINITION. The range checks of the requests' fields: what each owner refuses BAD_FIELD. -/

namespace Sys2Proof.Machine

/-- `lo ≤ n ≤ hi`. -/
abbrev within (lo hi n : Nat) : Prop := lo ≤ n ∧ n ≤ hi

/-- `lo ≤ z ≤ hi`. -/
abbrev withinInt (lo hi z : Int) : Prop := lo ≤ z ∧ z ≤ hi

/-- The station of a station number 0..2 (R195). -/
def stationOf? : Nat → Option Station
  | 0 => some .a
  | 1 => some .b
  | 2 => some .d
  | _ => none

/-- The unit of a unit number 0..4 (R184). -/
def unitOf? : Nat → Option Unit5
  | 0 => some .stationA
  | 1 => some .stationB
  | 2 => some .stationD
  | 3 => some .gen
  | 4 => some .prn
  | _ => none

/-- Fields of ORDER_OPEN within the ranges of R1 (R3 condition 1). -/
abbrev orderOpenInRange (f : OrderOpenReq) : Prop :=
  within 1 65535 f.order ∧ within 1 64 f.account ∧ f.cls ≤ 3 ∧ within 1 15 f.stock ∧
  f.bracket.count ∈ [1, 3, 5, 7] ∧ f.bracket.step ∈ [3, 4, 6, 12] ∧ within 1 255 f.template ∧
  Text.printableWithin f.lecturer 1 8

/-- A title or note as ITEM_ADD stores it: one given with length 0 is absent (R4). -/
def presentText (t : Option Text) : Option Text :=
  match t with
  | some [] => none
  | t => t

/-- Fields of ITEM_ADD within their ranges (R4 condition 3). -/
abbrev itemAddInRange (f : ItemAddReq) : Prop :=
  f.filter ≤ 4 ∧ within 1 4 f.copies ∧ Text.printableWithin f.callNumber 1 16 ∧
  (∀ t ∈ presentText f.title, Text.printableWithin t 1 40) ∧ (∀ t ∈ presentText f.note, Text.printableWithin t 1 24)

/-- The fields of R20 within their ranges (R21 condition 1). -/
abbrev settingsInRange (x : Settings) : Prop :=
  withinInt (-120) 120 x.calibration ∧ x.magnification ≤ 300 ∧ x.filter1 ≤ 48 ∧ x.filter2 ≤ 48 ∧ x.filter3 ≤ 48 ∧
  x.filter4 ≤ 48

/-- The inputs of a DIRECT query within the ranges of R52 (R68). -/
abbrev planDirectInRange (f : PlanDirectReq) : Prop :=
  withinInt (-120) 120 f.calibration ∧ withinInt (-48) 48 f.subject ∧ withinInt (-9) 6 f.speed ∧ f.filter ≤ 48 ∧
  f.magnification ≤ 300 ∧ withinInt (-36) 36 f.offset

/-- The fields of a STATION query but the station within their ranges (R69 condition 1). -/
abbrev planStationInRange (f : PlanStationReq) : Prop :=
  within 1 15 f.stock ∧ f.filter ≤ 4 ∧ withinInt (-48) 48 f.subject ∧ withinInt (-36) 36 f.offset

/-- A stock's fields within their ranges (R93 condition 1). -/
abbrev stockSetInRange (f : StockSetReq) : Prop :=
  within 1 15 f.code ∧ withinInt (-9) 6 f.speed ∧ Text.printableWithin f.name 1 12

/-- The fields of FRAME_READ within their ranges (R111 condition 1). -/
abbrev frameReadInRange (f : FrameReadReq) : Prop := within 1 9999 f.roll ∧ within 1 250 f.first ∧ within 1 8 f.count

/-- The fields of TARIFF_SET within their ranges (R119). -/
abbrev tariffSetInRange (f : TariffSetReq) : Prop :=
  within 1 4 f.cls ∧ f.centre ≤ 9999 ∧ f.bracket ≤ 9999 ∧ f.copy ≤ 9999 ∧ f.mount ≤ 9999

/-- The fields of ACCOUNT_SET within their ranges (R123 condition 1). -/
abbrev accountSetInRange (f : AccountSetReq) : Prop :=
  within 1 64 f.slot ∧ Text.printableWithin f.name 1 12 ∧ within 1 4 f.cls ∧ f.limit ≤ 99999999

/-- The fields of ADJUST within their ranges (R131 condition 1). -/
abbrev adjustInRange (f : AdjustReq) : Prop :=
  within 1 64 f.slot ∧ withinInt (-999999) 999999 f.amount ∧ f.amount ≠ 0

/-- A piece that R155 accepts. -/
def pieceInRange : Piece → Bool
  | .literal t => decide (Text.printableWithin t 1 24)
  | .field _ => true

/-- A template that R155 accepts and a frame can carry: R195 bounds templates by the frame as well as by R155. One past the
frame reaches the part in no run, and the model answers it as one past R155 (log entry 29). -/
abbrev templateInRange (f : TemplateLoadReq) : Prop :=
  within 1 255 f.template ∧ within 1 4 f.lines.length ∧
  (∀ l ∈ f.lines, within 1 6 l.length ∧ ∀ p ∈ l, pieceInRange p = true) ∧ f.bytes ≤ Config.maxPayload

end Sys2Proof.Machine
end

