-- ==== Sys2Proof/Machine/AccountRequests.lean ====
section
/-! DEFINITION. The requests of the account unit (R119, R120, R123 to R125, R131). -/

namespace Sys2Proof.Machine

/-! ### TARIFF_SET and TARIFF_READ (R119, R120) -/

def answerTariffSet (f : TariffSetReq) (s : State) : Answer :=
  if ¬ tariffSetInRange f then refuse s .badField
  else
    let r : Rates := { centre := f.centre, bracket := f.bracket, copy := f.copy, mount := f.mount }
    taken (s.modAcc fun t => { t with tariffs := t.tariffs.set f.cls r })

def execTariffSet (tag : Byte) (p : Payload TariffSetReq) (s : State) : Host.Outcome State Fault Refusal :=
  request .tariffSet tag p answerTariffSet s

/-- Accounts present that use a tariff class (R120). -/
def State.accountsOfClass (s : State) (cls : Nat) : Nat := (s.acc.accounts.filter fun a => a.cls == cls).length

def answerTariffRead (_ : Unit) (s : State) : Answer :=
  taken s (.tariffs ([1, 2, 3, 4].map fun c => (s.acc.tariffs.get c, s.accountsOfClass c)))

def execTariffRead (tag : Byte) (p : Payload Unit) (s : State) : Host.Outcome State Fault Refusal :=
  request .tariffRead tag p answerTariffRead s

/-! ### ACCOUNT_SET (R123) -/

/-- An account put into the table, which stays in slot order. -/
def putAccount (a : Account) : List Account → List Account
  | [] => [a]
  | x :: xs => if a.slot < x.slot then a :: x :: xs else x :: putAccount a xs

/-- The account that ACCOUNT_SET creates (R123). -/
def newAccount (f : AccountSetReq) : Account :=
  { slot := f.slot, name := f.name, cls := f.cls, limit := f.limit, charged := 0, mounted := 0, adjusted := 0
    reserved := 0 }

def answerAccountSet (f : AccountSetReq) (s : State) : Answer :=
  if ¬ accountSetInRange f then refuse s .badField
  else match s.account? f.slot with
    | none => taken (s.modAcc fun t => { t with accounts := putAccount (newAccount f) t.accounts })
    | some a =>
      if f.limit ≠ 0 ∧ (f.limit : Int) < a.committed then refuse s .belowCommitted (.committed a.committed)
      else taken (s.modAccount f.slot fun a => { a with name := f.name, cls := f.cls, limit := f.limit })

def execAccountSet (tag : Byte) (p : Payload AccountSetReq) (s : State) : Host.Outcome State Fault Refusal :=
  request .accountSet tag p answerAccountSet s

/-! ### ACCOUNT_CLEAR (R124) -/

/-- Orders present that name an account slot, in any state (R124, R125). -/
def State.ordersOn (s : State) (slot : Nat) : Nat := (s.ord.orders.filter fun o => o.account == slot).length

/-- Journal entries that name an account slot (R124, R125). -/
def State.entriesOn (s : State) (slot : Nat) : Nat := (s.jnl.entries.filter fun e => e.account == slot).length

def answerAccountClear (f : AccountReq) (s : State) : Answer :=
  if ¬ within 1 64 f.slot then refuse s .badField
  else match s.account? f.slot with
    | none => refuse s .notFound
    | some a =>
      if 0 < s.ordersOn f.slot ∨ a.reserved ≠ 0 then refuse s .busy
      else if 0 < s.entriesOn f.slot then refuse s .busy
      else taken (s.modAcc fun t => { t with accounts := t.accounts.filter fun x => !(x.slot == f.slot) })

def execAccountClear (tag : Byte) (p : Payload AccountReq) (s : State) : Host.Outcome State Fault Refusal :=
  request .accountClear tag p answerAccountClear s

/-! ### ACCOUNT_READ (R125) -/

/-- The remaining reservations of the item contexts on an account, in the order A, B, D (R125). A context whose remaining
reservation is 0 counts as one that reserves on it, which is the model's choice (log entry 32). -/
def State.reservationsOn (s : State) (slot : Nat) : List Nat :=
  allStations.filterMap fun st => match (s.seq st).context with
    | some c => if c.account = slot then some c.remaining else none
    | none => none

def answerAccountRead (f : AccountReq) (s : State) : Answer :=
  if ¬ within 1 64 f.slot then refuse s .badField
  else match s.account? f.slot with
    | none => refuse s .notFound
    | some a => taken s (.account a a.committed a.headroom (s.ordersOn f.slot) (s.reservationsOn f.slot)
        (s.entriesOn f.slot))

def execAccountRead (tag : Byte) (p : Payload AccountReq) (s : State) : Host.Outcome State Fault Refusal :=
  request .accountRead tag p answerAccountRead s

/-! ### ADJUST (R131, R139) -/

/-- The ADJUST entry (R131, R134). -/
def adjustEntry (slot : Nat) (amount : Int) (date : Option Nat) (n : Nat) : JournalEntry :=
  { seq := n, kind := .adjust, account := slot, amount := amount, order := none, item := none, roll := none
    frame := none, date := date }

def answerAdjust (f : AdjustReq) (s : State) : Answer :=
  if ¬ adjustInRange f then refuse s .badField
  else match s.account? f.slot with
    | none => refuse s .notFound
    | some a =>
      if 0 < f.amount ∧ ¬ a.withinLimit (a.committed + f.amount) then
        refuse s .overLimit (match a.headroom with
          | some h => .headroom h
          | none => .nothing)
      else if ¬ s.jnl.hasRoom then refuse s .journalFull
      else
        let t := (s.adjustAccount f.slot f.amount).appendEntry false (adjustEntry f.slot f.amount s.stamp)
        match t.account? f.slot with
        | some b => taken t (.adjusted b.committed s.jnl.next)
        | none => taken t

def execAdjust (tag : Byte) (p : Payload AdjustReq) (s : State) : Host.Outcome State Fault Refusal :=
  request .adjust tag p answerAdjust s

end Sys2Proof.Machine
end

