-- ==== Sys2Proof/Machine/Exposure.lean ====
section
/-! DEFINITION. The exposure planner, EXP (R25, R51 to R66). -/

namespace Sys2Proof.Machine

/-! ### Planned frame lists (R25) -/

/-- Offsets of the bracket entries in the order CENTRE_FIRST: 0, −s, +s, −2s, +2s … as far as `b` entries go (R25). -/
def centreFirstOffsets (b s : Nat) : List Int :=
  (List.range b).map fun i => if i % 2 = 1 then -(((i / 2 + 1) * s : Nat) : Int) else ((i / 2 * s : Nat) : Int)

/-- Offsets of the bracket entries in the order ASCENDING: from −((b−1)/2)·s upward in steps of s (R25). -/
def ascendingOffsets (b s : Nat) : List Int :=
  (List.range b).map fun i => ((i : Int) - ((b - 1) / 2 : Nat)) * s

/-- A bracket entry: CENTRE at offset 0, BRACKET elsewhere (R25). -/
def bracketEntry (offset : Int) : Entry :=
  { offset := offset, kind := if offset = 0 then .centre else .bracket }

/-- The planned frame list of an item with `copies` copies under a bracket pattern (R25). -/
def plannedFrames (b : Bracket) (copies : Nat) : List Entry :=
  let offsets := match b.sequence with
    | .centreFirst => centreFirstOffsets b.count b.step
    | .ascending => ascendingOffsets b.count b.step
  offsets.map bracketEntry ++ List.replicate (copies - 1) { offset := 0, kind := .copy }

/-! ### The tables of the silicon -/

/-- The bellows table: magnification in hundredths and the correction in twelfths (R54). -/
def bellowsTable : List (Nat × Nat) :=
  [(0, 0), (10, 3), (20, 6), (30, 9), (40, 12), (50, 14), (60, 16), (70, 18), (80, 20), (90, 22), (100, 24), (125, 28),
   (150, 32), (175, 35), (200, 38), (250, 43), (300, 48)]

/-- The correction at the largest tabulated magnification not above `m` (R54). -/
def bellowsCorrection (m : Nat) : Nat :=
  ((bellowsTable.filter fun row => decide (row.1 ≤ m)).getLast?.map Prod.snd).getD 0

/-- The energy table E(0) … E(21) (R64). -/
def energyTable : List Nat := [64, 51, 40, 32, 25, 20, 16, 13, 10, 8, 6, 5, 4, 3, 3, 2, 2, 1, 1, 1, 1, 1]

/-- E(p), the energy of one pop at level `p`; a level beyond the table has the floor of the table, 1 (R64). -/
def popEnergy (p : Nat) : Nat := energyTable.getD p 1

/-! ### A plan -/

/-- The inputs of a shot plan (R52). -/
structure PlanInputs where
  calibration : Int
  subject : Int
  speed : Int
  filter : Nat
  magnification : Nat
  offset : Int
  rounding : Rounding
deriving DecidableEq, Repr

/-- The required exposure R (R56). -/
def requiredExposure (i : PlanInputs) : Int :=
  i.calibration + i.subject - 4 * i.speed + i.filter + bellowsCorrection i.magnification + i.offset

/-- The pop exponent k (R57). -/
def popExponent (r : Int) : Nat :=
  if r ≤ 0 then 0 else if r ≤ 11 then 1 else if r ≤ 22 then 2 else 3

/-- The surplus x of light that the full-power pops give, none when OVER is set (R58, R59). -/
def surplus (r : Int) : Option Nat :=
  if r ≤ 33 then some (11 * (popExponent r : Int) - r).toNat else none

/-- The power level before the clamp, from q = x / 4 and the remainder r of the surplus (R60). -/
def roundedLevel (mode : Rounding) (x : Nat) : Nat :=
  let q := x / 4
  let r := x % 4
  match mode with
  | .nearestEven =>
    if r ≤ 1 then q
    else if r = 2 then (if q % 2 = 0 then q else q + 1)
    else q + 1
  | .moreLight => q
  | .lessLight => if r = 0 then q else q + 1

/-- The shot plan of a required exposure under a rounding mode (R57 to R66). -/
def planOf (mode : Rounding) (r : Int) : ShotPlan :=
  let k := popExponent r
  let unclamped := match surplus r with
    | some x => roundedLevel mode x
    | none => 0
  let p : Nat := min unclamped 21
  let achieved : Int := 11 * k - 4 * p
  { required := r, pops := 2 ^ k, level := p, achieved := achieved, deviation := achieved - r
    energy := 2 ^ k * popEnergy p, overFlag := decide (33 < r), underFlag := decide (21 < unclamped) }

/-- The shot plan of its inputs (R66). -/
def shotPlan (i : PlanInputs) : ShotPlan := planOf i.rounding (requiredExposure i)

/-- The filter correction of a filter position under a station's settings; 0 for position 0 (R53). -/
def filterCorrection (x : Settings) (position : Nat) : Nat :=
  match position with
  | 1 => x.filter1
  | 2 => x.filter2
  | 3 => x.filter3
  | 4 => x.filter4
  | _ => 0

/-- The inputs of a plan at a station with the settings given (R34, R52). -/
def stationInputs (x : Settings) (speed : Int) (position : Nat) (subject offset : Int) : PlanInputs :=
  { calibration := x.calibration, subject := subject, speed := speed, filter := filterCorrection x position
    magnification := x.magnification, offset := offset, rounding := x.rounding }

end Sys2Proof.Machine
end

