-- ==== Sys2Proof/Machine/Generator.lean ====
section
/-! DEFINITION. The generator controller and its arbiter (R72 to R87), with the one thing a station does inside them: a
granted station that is EXPOSING fires at once (R35). -/

namespace Sys2Proof.Machine

/-- Change a station's item context, where it has one. -/
def State.modContext (st : Station) (f : ItemContext → ItemContext) (s : State) : State :=
  s.modSeq st fun q => { q with context := q.context.map f }

/-! ### Firing -/

/-- A fire is given at a level to the grant holder (R76). -/
def State.giveFire (p : Nat) (s : State) : State :=
  (s.modGen fun g =>
    { g with mode := .firing, output := .level p, windowTimer := some Config.flashWindow
             holder := g.holder.map fun h => { h with given := h.given + 1, pending := none } }).emit (.fire p)

/-- The grant holder asks for a fire: given in READY, kept pending in CHARGING (R76). -/
def State.askFire (st : Station) (p : Nat) (s : State) : State :=
  match s.gen.holder with
  | some h =>
    if h.station = st then
      match s.gen.mode with
      | .ready => s.giveFire p
      | .charging => s.modGen fun g => { g with holder := g.holder.map fun h => { h with pending := some p } }
      | .off | .firing | .fault => s
    else s
  | none => s

/-- The station asks the generator for one pop at the plan's level: pops fired rises by one and the pop is outstanding
(R35). -/
def State.askPop (st : Station) (s : State) : State :=
  match (s.seq st).context with
  | some c => match c.plan with
    | some p =>
      ((s.modContext st fun c => { c with plan := c.plan.map fun p => { p with fired := p.fired + 1 } }).modSeq st
        fun q => { q with popWait := .act }).askFire st p.plan.level
    | none => s
  | none => s

/-- The station hears its grant: GRANTED, and it fires at once if EXPOSING (R35). -/
def State.granted (st : Station) (s : State) : State :=
  let s := s.modContext st fun c => { c with request := .granted }
  if (s.seq st).mode = .exposing then s.askPop st else s

/-! ### Arbitration -/

/-- The request of a station (R80). -/
def Gen.request? (g : Gen) (st : Station) : Option GenRequest := g.requests.find? fun r => r.station == st

/-- How recent a station stands for the choice: the absent ones first, A, B, D, then by last grant, oldest first
(R81). -/
def Gen.recency (g : Gen) (st : Station) : Nat :=
  match g.lastGrant.findIdx? (fun x => x == st) with
  | some i => 3 + i
  | none => match st with
    | .a => 0
    | .b => 1
    | .d => 2

/-- Whether request `r` goes before `q`: the higher class, among equals the less recent station (R82). -/
def Gen.prefers (g : Gen) (r q : GenRequest) : Bool :=
  decide (q.cls < r.cls) || (q.cls == r.cls && decide (g.recency r.station < g.recency q.station))

/-- The request the arbiter chooses (R82). -/
def Gen.best (g : Gen) : Option GenRequest :=
  g.requests.foldl (fun acc r => match acc with
    | none => some r
    | some q => if g.prefers r q then some r else some q) none

/-- The grant test of the chosen request, and its grant where it passes (R83). -/
def State.testChosen (s : State) : State :=
  match s.gen.chosen with
  | none => s
  | some st => match s.gen.request? st with
    | none => s
    | some r =>
      if s.gen.heat + r.energy ≤ Config.maxHeat then
        (s.modGen fun g =>
          { g with requests := g.requests.filter fun q => !(q.station == st)
                   chosen := none
                   holder := some { station := st, given := 0, pending := none }
                   lastGrant := (g.lastGrant.filter fun x => !(x == st)) ++ [st]
                   idleTimer := some Config.idleTimeout }).granted st
      else s

/-- The arbiter's choice, where its conditions hold, with the grant test at once (R82, R83). -/
def State.choose (s : State) : State :=
  if s.gen.mode = .ready ∧ s.gen.holder = none ∧ s.gen.chosen = none then
    match s.gen.best with
    | some r => (s.modGen fun g => { g with chosen := some r.station }).testChosen
    | none => s
  else s

/-- GENERATOR_STATE as the generator stands (R90). -/
def State.raiseGen (s : State) : State := s.raise (.generatorState s.gen.mode s.gen.heat)

/-- The state entered with the store's charge unknown: READY if the ready input is high, else CHARGING with the charge
timer started (R73, R77). -/
def Gen.chargeOrReady (g : Gen) : Gen :=
  if g.readyInput then { g with mode := .ready } else { g with mode := .charging, chargeTimer := some Config.chargeTimeout }

/-- A request placed while the generator is not in FAULT (R73, R80, R82, R83). -/
def State.listRequest (r : GenRequest) (s : State) : State :=
  match s.gen.mode with
  | .off =>
    (s.modGen fun g =>
      { ({ g with output := .level 0, requests := g.requests ++ [r] }).chargeOrReady with
        idleTimer := some Config.idleTimeout }).raiseGen.choose
  | .ready =>
    let s := s.modGen fun g => { g with requests := g.requests ++ [r] }
    match s.gen.chosen with
    | none => s.choose
    | some st => match s.gen.request? st with
      | none => s
      | some q =>
        if q.cls < r.cls then (s.modGen fun g => { g with chosen := some r.station }).testChosen else s
  | .charging | .firing | .fault => s.modGen fun g => { g with requests := g.requests ++ [r] }

/-- A grant released by its holder: the fire record and a pending fire go, and the arbiter chooses (R85). -/
def State.releaseGrant (st : Station) (s : State) : State :=
  match s.gen.holder with
  | some h => if h.station = st then (s.modGen fun g => { g with holder := none }).choose else s
  | none => s

/-- A listed request withdrawn; if it was chosen the arbiter chooses again (R86). -/
def State.withdraw (st : Station) (s : State) : State :=
  (s.modGen fun g =>
    { g with requests := g.requests.filter fun r => !(r.station == st)
             chosen := if g.chosen = some st then none else g.chosen }).choose

/-- The fires given to a station's grant, none where it is not the holder (R35, R83). -/
def State.firesGiven (s : State) (st : Station) : Option Nat :=
  match s.gen.holder with
  | some h => if h.station = st then some h.given else none
  | none => none

end Sys2Proof.Machine
end

