-- ==== Sys2Proof/Machine/Stations.lean ====
section
/-! DEFINITION. The station sequencer between frames: states, settling, roll ends, FAULT, taking an order, announcing,
and dispatch (R8, R22, R26 to R30, R38, R47, R49). -/

namespace Sys2Proof.Machine

/-! ### States -/

/-- The station enters a state; a change of state queues STATION_STATE (R22). A room report belongs to the wait it
reached, so it goes with any entry to a state. -/
def State.setMode (st : Station) (m : Mode) (s : State) : State :=
  let t := s.modSeq st fun q => { q with mode := m, roomReport := false }
  if (s.seq st).mode.code = m.code then t else t.raise (.stationState st m (s.seq st).current)

/-- The station leaves its current order (R22). -/
def State.clearCurrent (st : Station) (s : State) : State := s.modSeq st fun q => { q with current := none }

/-! ### Settling (R26) -/

/-- The generator claim of the item is given up: a listed request withdrawn, an idle grant released, a grant with a pop
outstanding kept until that pop is reported (R26). -/
def State.dropClaim (st : Station) (s : State) : State :=
  match (s.seq st).context with
  | none => s
  | some c =>
    let t := s.modContext st fun c => { c with request := .none }
    match c.request with
    | .none => s
    | .waiting => t.withdraw st
    | .granted =>
      if (s.seq st).popWait = .none then t.releaseGrant st
      else t.modSeq st fun q => { q with popWait := .discard }

/-- A held journal slot is released (R26). -/
def State.dropSlot (st : Station) (s : State) : State :=
  match (s.seq st).context with
  | none => s
  | some c =>
    if c.slotHeld then (s.modContext st fun c => { c with slotHeld := false }).handBackSlot else s

/-- The remaining reservation and the reserved records go back, and the item context is discarded (R26). -/
def State.dropContext (st : Station) (s : State) : State :=
  match (s.seq st).context with
  | none => s
  | some c =>
    ((s.releaseMoney c.account c.remaining).returnRecords c.records).modSeq st fun q => { q with context := none }

/-- The station settles its item (R26). -/
def State.settle (st : Station) (s : State) : State := ((s.dropClaim st).dropSlot st).dropContext st

/-- The station leaves its order: it settles and clears its current order. -/
def State.leaveOrder (st : Station) (s : State) : State := (s.settle st).clearCurrent st

/-- An ACTIVE current order becomes HELD with a reason (R10). -/
def State.holdCurrent (st : Station) (reason : HoldReason) (s : State) : State :=
  match (s.seq st).current with
  | some id => s.holdIfActive id reason
  | none => s

/-! ### Items (R9, R38) -/

/-- Whether entries of the planned frame list are still to be exposed (R25). -/
def ItemContext.entriesLeft (c : ItemContext) : Bool := decide (c.nextIndex ≤ c.entries.length)

/-- An item ends DONE or SKIPPED at a station: ORD records it and the station queues ITEM_DONE (R9, R38, R42). -/
def State.endItem (st : Station) (id n : Nat) (e : ItemState) (s : State) : State :=
  let s := s.modOrder id (Order.endItem n e)
  match (s.order? id).bind (Order.item? · n) with
  | some i => s.raise (.itemDone st id n e i.framesDone)
  | none => s

/-- Whether the order of an id has an item left (R9). -/
def State.itemsLeft (s : State) (id : Nat) : Bool :=
  match s.order? id with
  | some o => o.itemsLeft
  | none => false

/-- The order becomes EXPOSED and the station has no order (R9, R38). -/
def State.orderDone (st : Station) (id : Nat) (s : State) : State := (s.exposeOrder id).clearCurrent st

/-! ### Roll ends (R47) -/

/-- An item in hand with no entry left ends first, and with it an order without a further item (R38, R47). -/
def State.endItemFirst (st : Station) (s : State) : State :=
  match (s.seq st).context with
  | some c =>
    if c.entriesLeft then s
    else
      let s := (s.endItem st c.order c.item .done).settle st
      if s.itemsLeft c.order then s else s.orderDone st c.order
  | none => s

/-- The station takes the roll's end, which ROL has recorded (R47, R107). -/
def State.takeRollEnd (st : Station) (s : State) : State :=
  let s := ((s.endItemFirst st).holdCurrent st .rollEnd).leaveOrder st
  let s := (s.modSeq st fun q => { q with faultMemory := none, repeatMisfire := false }).setMode st .ending
  match s.rollAt st with
  | some r => match r.back with
    | .cassette => (s.modRoll r.number fun x => { x with state := .rewinding }).modDrive st Drive.startRewind
    | .bulk => (s.rollFull r st).setMode st .awaitUnload
  | none => s

/-! ### FAULT (R49, R187) -/

/-- The station goes to FAULT with a cause (R49, R187). -/
def State.enterFault (st : Station) (cause : StationFault) (unfinished : Bool) (s : State) : State :=
  let memory : FaultMemory := { before := (s.seq st).mode, cause := cause, unfinished := unfinished }
  (((s.modSeq st fun q => { q with faultMemory := some memory, repeatMisfire := false }).setMode st .fault).dropClaim
    st).dropSlot st

/-! ### The film's end during a move (R100, R107, R108) -/

/-- ROL takes the sensor's report: a short end, or the expected end already recorded (R107, R108). -/
def State.recordFilmEnd (st : Station) (s : State) : State :=
  match s.rollAt st with
  | some r => if r.ended then s else s.modRoll r.number fun x => { x.truncate with short := true }
  | none => s

/-- The film's end met by a leader frame, an advance or a recovery pull (R40, R100, R108, R190). -/
def State.filmEnd (st : Station) (s : State) : State :=
  let s := (s.modDrive st Drive.stop).recordFilmEnd st
  match (s.seq st).mode with
  | .fault =>
    (match (s.seq st).faultMemory with
     | some { cause := .leaderJam, .. } => s
     | _ => (s.holdCurrent st .fault).leaveOrder st).takeRollEnd st
  | .advancing => if (s.seq st).repeatMisfire then s.enterFault st .misfireRepeat false else s.takeRollEnd st
  | _ => s.takeRollEnd st

/-- The drive starts a leader frame, an advance or a recovery pull (R98). -/
def State.startMove (st : Station) (m : Move) (s : State) : State := s.modDrive st (Drive.start m)

/-- A move that starts while end-seen is set ends at once (R100). -/
def State.filmEndIfSeen (st : Station) (s : State) : State := if (s.drive st).endSeen then s.filmEnd st else s

/-! ### Announcing (R29, R30) -/

/-- The station keeps an order that becomes HELD (R30, R33). -/
def State.keepHeld (st : Station) (id : Nat) (reason : HoldReason) (hold : StationHold) (s : State) : State :=
  (s.holdIfActive id reason).setMode st (.held hold)

/-- The item context at announce (R24). -/
def newContext (o : Order) (i : Item) (rates : RateSnapshot) : ItemContext :=
  let entries := plannedFrames o.bracket i.copies
  let rest := entries.drop i.framesDone
  { order := o.id, item := i.number, account := o.account, entries := entries, nextIndex := i.framesDone + 1
    rates := rates, remaining := rates.cost rest, records := rest.length + 1, retake := 0, slotHeld := false
    request := .none, plan := none, recorded := false }

/-- The announce of an item whose three conditions hold (R29). -/
def State.makeAnnounce (st : Station) (o : Order) (i : Item) (rates : RateSnapshot) (s : State) : State :=
  let c := newContext o i rates
  let s := (s.reserveRecords c.records).reserveMoney o.account c.remaining
  let s := s.modItem o.id i.number fun i => { i with state := .inProgress }
  let s := s.modSeq st fun q => { q with context := some c, footPending := false }
  (s.setMode st .announced).raise (.itemReady st o.id i.number i.callNumber)

/-- The three conditions of an announce in order, and what the first that fails does (R29, R30). -/
def State.tryAnnounce (st : Station) (o : Order) (i : Item) (s : State) : State :=
  match s.rollAt st with
  | none => s
  | some r =>
    let needed := ((plannedFrames o.bracket i.copies).drop i.framesDone).length + 1
    if r.remaining < needed then (s.modRoll r.number Roll.truncate).takeRollEnd st
    else if ¬ s.rol.hasRoom needed then s.keepHeld st o.id .tableFull .tableFull
    else match s.account? o.account with
      | none => s.keepHeld st o.id .limit .limit
      | some a =>
        let rates := s.snapshot a
        if a.withinLimit (a.committed + (newContext o i rates).remaining) then s.makeAnnounce st o i rates
        else s.keepHeld st o.id .limit .limit

/-- An item in IN_PROGRESS with no entry left, which is not announced but ends (R29). -/
def Item.spent (o : Order) (i : Item) : Bool :=
  i.state == .inProgress && i.framesDone == (plannedFrames o.bracket i.copies).length

/-- The station announces its order's next item, passing over the spent ones, at most `fuel` of them; `again` runs
dispatch (R29, R38). -/
def announceFrom (again : State → State) : Nat → Station → State → State
  | 0, _, s => s
  | fuel + 1, st, s =>
    match (s.seq st).current.bind s.order? with
    | none => s
    | some o => match o.nextItem? with
      | none => again ((s.orderDone st o.id).setMode st .ready)
      | some i =>
        if Item.spent o i then announceFrom again fuel st (s.endItem st o.id i.number .done)
        else s.tryAnnounce st o i

/-- The station announces its order's next item (R29). -/
def State.announce (again : State → State) (st : Station) (s : State) : State :=
  announceFrom again (Config.maxItemsPerOrder + 1) st s

/-! ### Taking an order (R27, R28) -/

/-- A separator frame is due for an order (R27). -/
def State.separatorDue (st : Station) (id : Nat) (s : State) : Bool :=
  match s.rollAt st with
  | none => false
  | some r =>
    (s.seq st).settings.separator && s.lastKind r.number != some .separator &&
    match s.lastNamed r.number with
    | some named => named != id
    | none => false

/-- The remaining entries of the order's next item (R28). -/
def Order.remainingEntries (o : Order) : Nat :=
  match o.nextItem? with
  | some i => ((plannedFrames o.bracket i.copies).drop i.framesDone).length
  | none => 0

/-- The station advances a separator frame, or finds no space for one (R28). -/
def State.advanceSeparator (st : Station) (o : Order) (s : State) : State :=
  match s.rollAt st with
  | none => s
  | some r =>
    if r.remaining < o.remainingEntries + 2 then (s.modRoll r.number Roll.truncate).takeRollEnd st
    else if ¬ s.rol.hasRoom 1 then s.keepHeld st o.id .tableFull .tableFull
    else
      ((((s.reserveRecords 1).setMode st .separating).recordFrame r .separator none).startMove st
        .advance).filmEndIfSeen st

/-- Dispatch gives an order to a station (R8, R27). -/
def State.takeOrder (again : State → State) (st : Station) (o : Order) (s : State) : State :=
  let s := (s.modOrder o.id fun o => { o with state := .active, bound := some st }).modSeq st
    fun q => { q with current := some o.id }
  if s.separatorDue st o.id then s.advanceSeparator st o else s.announce again st

/-! ### Dispatch (R8) -/

/-- Step 1 at one station: a WAITING order that the station keeps in HELD is given back to it (R8). -/
def State.giveBack (again : State → State) (st : Station) (s : State) : State :=
  match (s.seq st).mode, (s.seq st).current.bind s.order? with
  | .held _, some o => if o.state = .waiting then s.takeOrder again st o else s
  | _, _ => s

/-- Step 2 at one station: READY, it takes the first eligible order in queue order (R8). -/
def State.offer (again : State → State) (st : Station) (s : State) : State :=
  match (s.seq st).mode, s.rollAt st with
  | .ready, some r => match s.ord.queue.find? fun o => o.eligible st r.stock with
    | some o => s.takeOrder again st o
    | none => s
  | _, _ => s

/-- One run of dispatch; `again` is the run that a station's becoming READY inside it starts (R8). -/
def dispatchRun (again : State → State) (s : State) : State :=
  let s := s |> State.giveBack again .a |> State.giveBack again .b |> State.giveBack again .d
  s |> State.offer again .a |> State.offer again .b |> State.offer again .d

/-- Dispatch to a depth: each run inside another has ended one more order. -/
def dispatchTo : Nat → State → State
  | 0, s => s
  | depth + 1, s => dispatchRun (dispatchTo depth) s

/-- Dispatch runs (R8). -/
def State.dispatch (s : State) : State := dispatchTo (s.ord.orders.length + 1) s

/-- The station goes to READY and dispatch runs (R8). -/
def State.becomeReady (st : Station) (s : State) : State := (s.setMode st .ready).dispatch

end Sys2Proof.Machine
end

