-- ==== Sys2Proof/Machine/Sequence.lean ====
section
/-! DEFINITION. The frame sequence at a station: entries, pops, records, advances, misfires, aborts, generator faults, the
door, jams and recovery (R31 to R49, R87, R98 to R102, R190, R191). -/

namespace Sys2Proof.Machine

/-! ### Requests to the generator (R34, R46, R87) -/

/-- A generator-fault report to a station whose request was waiting, or is placed in FAULT, and to a holder that was given
no fire (R46). -/
def State.genFaultUnfired (st : Station) (s : State) : State :=
  let s := (s.holdCurrent st .generator).leaveOrder st
  if (s.seq st).mode = .exposing then s.becomeReady st else s

/-- The plan of the item's next entry at the station (R34). -/
def State.stationPlan (st : Station) (s : State) : Option ShotPlan :=
  match (s.seq st).context with
  | none => none
  | some c =>
    match s.rollAt st, (s.order? c.order).bind (Order.item? · c.item), c.entries[c.nextIndex - 1]? with
    | some r, some i, some e => match s.speed? r.stock with
      | some v => some (shotPlan (stationInputs (s.seq st).settings v i.filter i.offset e.offset))
      | none => none
    | _, _, _ => none

/-- The station places a request in the generator's list, or hears of the generator's FAULT at once (R80, R87). A station that
settled at a door opening with a pop outstanding holds its grant until that pop is reported (R26, R48), and R80, which has a
station place a request when it holds no grant, does not say what one placed meanwhile does: the model lists it at once, and
the arbiter leaves it until the grant is released, which is the model's choice (log entry 16). -/
def State.placeRequest (st : Station) (cls energy : Nat) (s : State) : State :=
  if s.gen.mode = .fault then s.genFaultUnfired st
  else s.listRequest { station := st, cls := cls, energy := energy }

/-- With its slot held, the station obtains the plan and places its request; with `early` it stays ADVANCING, else it goes
to EXPOSING (R34). -/
def State.claim (early : Bool) (st : Station) (s : State) : State :=
  match (s.seq st).context, s.stationPlan st with
  | some c, some p => match s.order? c.order with
    | some o =>
      let s := s.modContext st fun c =>
        { c with plan := some { plan := p, fired := 0, confirmed := 0 }, request := .waiting }
      (if early then s else s.setMode st .exposing).placeRequest st o.cls p.energy
    | none => s
  | _, _ => s

/-- A slot reserved for the station (R33, R137). -/
def State.takeSlot (st : Station) (s : State) : State :=
  s.reserveSlot.modContext st fun c => { c with slotHeld := true }

/-- The journal-slot step of an entry (R33). -/
def State.beginEntry (st : Station) (s : State) : State :=
  match (s.seq st).context with
  | none => s
  | some c =>
    if s.jnl.hasRoom then (s.takeSlot st).claim false st
    else if c.recorded then s.setMode st (.held .journalFull)
    else (s.settle st).keepHeld st c.order .journalFull .journalFull

/-- The early request at the start of an advance (R41). -/
def State.earlyRequest (st : Station) (s : State) : State :=
  match (s.seq st).context with
  | none => s
  | some c =>
    if (s.seq st).settings.early ∧ c.entriesLeft ∧ s.jnl.hasRoom then (s.takeSlot st).claim true st else s

/-! ### Advances and records (R36, R39) -/

/-- The station commands its drive to advance one frame and goes to ADVANCING; with `early` an early request may be
placed (R36, R39, R41). -/
def State.advance (early : Bool) (st : Station) (s : State) : State :=
  let s := (s.startMove st .advance).setMode st .advancing
  (if early then s.earlyRequest st else s).filmEndIfSeen st

/-- What a frame record takes from the item context (R36). -/
def ItemContext.exposure (c : ItemContext) : Option Exposure :=
  match c.entries[c.nextIndex - 1]?, c.plan with
  | some e, some p => some
      { order := c.order, item := c.item, index := c.nextIndex, kind := e.kind, offset := e.offset
        level := p.plan.level, pops := p.plan.pops, achieved := p.plan.achieved, deviation := p.plan.deviation
        overFlag := p.plan.overFlag, underFlag := p.plan.underFlag }
  | _, _ => none

/-- ROL records the roll's next frame from the item context; one reserved record is used (R36, R39). -/
def State.recordShot (st : Station) (kind : FrameKind) (s : State) : State :=
  match s.rollAt st, (s.seq st).context.bind ItemContext.exposure with
  | some r, some e =>
    (s.recordFrame r kind (some e)).modContext st fun c => { c with records := c.records - 1, recorded := true }
  | _, _ => s

/-- The grant released by the station in the course of its frame (R36, R39). -/
def State.endGrant (st : Station) (s : State) : State :=
  (s.modContext st fun c => { c with request := .none }).releaseGrant st

/-- The charge of the entry just recorded as frame `frame` of roll `roll`: account, remaining reservation and the
EXPOSURE entry in the held slot (R36, R129). -/
def State.postExposure (st : Station) (roll frame : Nat) (s : State) : State :=
  match (s.seq st).context with
  | none => s
  | some c => match c.entries[c.nextIndex - 1]? with
    | none => s
    | some e =>
      let rate := c.rates.rate e.kind
      ((s.chargeAccount c.account rate).modContext st fun c =>
        { c with remaining := c.remaining - rate, slotHeld := false }).appendEntry true fun n =>
          { seq := n, kind := .exposure, account := c.account, amount := rate, order := some c.order
            item := some c.item, roll := some roll, frame := some frame, date := s.stamp }

/-- The last pop of a frame is confirmed (R36). -/
def State.completeEntry (st : Station) (s : State) : State :=
  match (s.seq st).context, s.rollAt st with
  | some c, some r =>
    let s := ((s.endGrant st).recordShot st .exposed).postExposure st r.number r.next
    let s := s.modItem c.order c.item fun i => { i with framesDone := i.framesDone + 1 }
    (s.modContext st fun c => { c with nextIndex := c.nextIndex + 1, plan := none }).advance true st
  | _, _ => s

/-- A frame abandoned with its order left: it is recorded SPOILED, the item settled, the film advanced (R44, R46). -/
def State.spoilAndLeave (st : Station) (s : State) : State :=
  ((s.recordShot st .spoiled).leaveOrder st).advance false st

/-- A misfire that the station acts upon (R39, R40). -/
def State.misfire (st : Station) (s : State) : State :=
  match (s.seq st).context, s.rollAt st with
  | some c, some r =>
    let repeated := decide (1 ≤ c.retake)
    let s := if repeated then
        s.capture (stationUnit st) { bareCapture (.station .misfireRepeat) with
          order := some c.order, item := some c.item, roll := some r.number, frame := some r.next }
      else s
    let s := ((s.endGrant st).recordShot st .spoiled).dropSlot st
    if repeated then (s.modSeq st fun q => { q with repeatMisfire := true }).advance false st
    else (s.modContext st fun c => { c with retake := 1 }).advance true st
  | _, _ => s

/-! ### The generator's reports (R35, R44, R77) -/

/-- A pop that the station acts upon is confirmed (R35). -/
def State.confirmPop (st : Station) (s : State) : State :=
  let s := s.modContext st fun c => { c with plan := c.plan.map fun p => { p with confirmed := p.confirmed + 1 } }
  match (s.seq st).context.bind ItemContext.plan with
  | some p => if p.confirmed < p.plan.pops then s.askPop st else s.completeEntry st
  | none => s

/-- The outcome of the outstanding pop reaches the station: `act` is what it does when it acts upon it (R26, R35, R44). -/
def State.popReport (st : Station) (act : State → State) (s : State) : State :=
  let t := s.modSeq st fun q => { q with popWait := .none }
  match (s.seq st).popWait with
  | .none => s
  | .act => act t
  | .spoil => (t.endGrant st).spoilAndLeave st
  | .discard => t.releaseGrant st

/-- The generator-fault report to the grant holder, with its fires-given count (R44, R46, R87). -/
def State.genFaultHolder (st : Station) (given : Nat) (s : State) : State :=
  let wait := (s.seq st).popWait
  let s := s.modSeq st fun q => { q with popWait := .none }
  let t := s.modContext st fun c => { c with request := .none }
  match wait with
  | .discard => s
  | .spoil => if 1 ≤ given then t.spoilAndLeave st else (t.leaveOrder st).becomeReady st
  | .none | .act =>
    if 1 ≤ given then (t.holdCurrent st .generator).spoilAndLeave st else t.genFaultUnfired st

/-- A station with a request among those that were listed acts upon the generator's fault (R46, R87). -/
def State.genFaultWaiting (listed : List GenRequest) (st : Station) (s : State) : State :=
  if listed.any (fun r => r.station == st) then s.genFaultUnfired st else s

/-- What GEN itself does on entering FAULT: no grant, no request, none chosen, and GENERATOR_STATE queued (R87, steps 1
to 4). -/
def State.genToFault (s : State) : State :=
  (s.modGen fun g =>
    { g with mode := .fault, output := .safe, chargeTimer := none, idleTimer := none, chosen := none, holder := none
             requests := [] }).raiseGen

/-- GEN enters FAULT, and behind its GENERATOR_STATE the stations that heard of it act (R87): the grant holder, then those
that were waiting, in the order A, B, D (log entry 28). -/
def State.enterGenFault (s : State) : State :=
  let t := s.genToFault
  let t := match s.gen.holder with
    | some h => t.genFaultHolder h.station h.given
    | none => t
  t |> State.genFaultWaiting s.gen.requests .a |> State.genFaultWaiting s.gen.requests .b
    |> State.genFaultWaiting s.gen.requests .d

/-! ### Leaving an order by ABORT or HOLD (R43 to R45) -/

/-- The station leaves its order, whose state ABORT or HOLD has already changed (R43, R44, R45). -/
def State.leave (st : Station) (s : State) : State :=
  match (s.seq st).mode with
  | .announced | .held _ => (s.leaveOrder st).becomeReady st
  | .separating | .advancing | .fault => s.leaveOrder st
  | .exposing =>
    if ((s.seq st).context.bind ItemContext.plan).any fun p => decide (1 ≤ p.fired) then
      if (s.seq st).popWait = .none then ((s.endGrant st).clearCurrent st).spoilAndLeave st
      else s.modSeq st fun q => { q with popWait := .spoil, current := none }
    else (s.leaveOrder st).becomeReady st
  | .unloaded | .loading | .ready | .ending | .awaitUnload | .interrupted => s

/-! ### The end of a move (R37, R38, R98, R102, R116, R190) -/

/-- At rest with no order: the roll's end where it is reached, else READY (R43, R44, R116). -/
def State.rest (st : Station) (s : State) : State :=
  if s.endReached st then s.takeRollEnd st else s.becomeReady st

/-- An item ends with its last advance, and the station goes on (R38). -/
def State.itemOver (st : Station) (c : ItemContext) (s : State) : State :=
  let s := (s.endItem st c.order c.item .done).settle st
  if s.itemsLeft c.order then
    if s.endReached st then s.takeRollEnd st else s.announce State.dispatch st
  else (s.orderDone st c.order).rest st

/-- An advance after a frame completes (R37, R40, R43). -/
def State.advanceOver (st : Station) (s : State) : State :=
  if (s.seq st).repeatMisfire then s.enterFault st .misfireRepeat false
  else match (s.seq st).context with
    | none => s.rest st
    | some c =>
      if ¬ c.entriesLeft then s.itemOver st c
      else if s.endReached st then s.takeRollEnd st
      else match c.request with
        | .granted => (s.setMode st .exposing).askPop st
        | .waiting => s.setMode st .exposing
        | .none => s.beginEntry st

/-- The leader goes on: the next leader frame, or the roll OPEN and the station READY (R102). -/
def State.leaderOn (st : Station) (s : State) : State :=
  if (s.drive st).leader < 3 then (s.startMove st .leader).filmEndIfSeen st
  else match s.rollAt st with
    | some r => (s.modRoll r.number fun x => { x with state := .opened }).becomeReady st
    | none => s

/-- A leader frame completes (R102). -/
def State.leaderOver (st : Station) (s : State) : State :=
  (s.modDrive st fun d => { d with leader := d.leader + 1 }).leaderOn st

/-- FAULT is left with its cause JAM or MISFIRE_REPEAT: the order is held, the item settled (R190, R191). -/
def State.recovered (st : Station) (s : State) : State :=
  (((s.holdCurrent st .fault).leaveOrder st).modSeq st fun q => { q with faultMemory := none }).rest st

/-- A recovery pull completes (R190). -/
def State.pullOver (st : Station) (s : State) : State :=
  match (s.seq st).faultMemory with
  | some { cause := .leaderJam, .. } =>
    ((s.modSeq st fun q => { q with faultMemory := none }).setMode st .loading).leaderOver st
  | _ => s.recovered st

/-- A move of the drive completes and the station hears of it (R98). -/
def State.moveOver (st : Station) (m : Move) (s : State) : State :=
  match m with
  | .leader => s.leaderOver st
  | .recovery => s.pullOver st
  | .advance => match (s.seq st).mode with
    | .separating => if (s.seq st).current = none then s.rest st else s.announce State.dispatch st
    | .advancing => s.advanceOver st
    | _ => s.rest st
  | .rewind => s

/-! ### Jams (R49, R99, R187) -/

/-- The fault of a move that timed out (R99). -/
def State.jamFault (st : Station) (m : Move) (s : State) : StationFault :=
  match m with
  | .leader => .leaderJam
  | .recovery => match (s.seq st).faultMemory with
    | some { cause := .leaderJam, .. } => .leaderJam
    | _ => .jam
  | .advance | .rewind => .jam

/-- The capture of a jam: roll number and next frame; for JAM the order and item when the station has them (R99,
R185). -/
def State.jamCapture (st : Station) (f : StationFault) (s : State) : Capture :=
  let c := bareCapture (.station f)
  let c := match s.rollAt st with
    | some r => { c with roll := some r.number, frame := some r.next }
    | none => c
  match f with
  | .jam => { c with order := (s.seq st).current, item := (s.seq st).context.map ItemContext.item }
  | .leaderJam | .rewindTimeout | .misfireRepeat => c

/-- A move failed: the fault is captured, and the station goes to FAULT or takes the new cause there (R40, R49, R99,
R187, R190). -/
def State.jam (st : Station) (m : Move) (s : State) : State :=
  let f := s.jamFault st m
  let s := s.capture (stationUnit st) (s.jamCapture st f)
  if (s.seq st).mode = .fault then
    s.modSeq st fun q => { q with faultMemory := q.faultMemory.map fun x => { x with cause := f, unfinished := true } }
  else if (s.seq st).repeatMisfire then s.enterFault st .misfireRepeat true
  else s.enterFault st f true

/-- FAULT_CLEAR at a station in FAULT (R190, R191). -/
def State.recover (st : Station) (s : State) : State :=
  match (s.seq st).mode, (s.seq st).faultMemory with
  | .fault, some x =>
    if x.unfinished then (s.startMove st .recovery).filmEndIfSeen st
    else match x.cause with
      | .rewindTimeout =>
        ((s.modSeq st fun q => { q with faultMemory := none }).setMode st .ending).modDrive st Drive.startRewind
      | .misfireRepeat => s.recovered st
      | .jam | .leaderJam => s
  | _, _ => s

/-! ### The door (R48, R110) -/

/-- The frame for which a fire has been given is recorded SPOILED as the door opens (R48). -/
def State.spoilAtDoor (st : Station) (s : State) : State :=
  match (s.seq st).context, s.firesGiven st with
  | some c, some given =>
    if c.request = .granted ∧ 1 ≤ given then s.recordShot st .spoiled else s
  | _, _ => s

/-- The roll in the back becomes OUT as the door opens: a FULL one as it is, a live one opened in light with every frame
suspect (R110). -/
def State.rollOpened (st : Station) (s : State) : State :=
  match s.rollAt st with
  | none => s
  | some r =>
    if r.state = .full then s.rollOut r.number st id
    else
      (s.modRol fun t =>
        { t with frames := updateWhere (fun f => f.roll == r.number) (fun f => { f with suspect := true }) t.frames }
        ).rollOut r.number st fun x => { x.truncate with openedInLight := true }

/-- The door opens (R48, R98, R100, R110). -/
def State.doorOpen (st : Station) (s : State) : State :=
  let s := s.modDrive st fun d => { d.stop with door := .opened, endSeen := false }
  match (s.seq st).mode with
  | .unloaded => s
  | .awaitUnload => (s.rollOpened st).setMode st .unloaded
  | _ =>
    let s := ((s.spoilAtDoor st).holdCurrent st .rollEnd).leaveOrder st
    ((s.modSeq st fun q => { q with faultMemory := none, repeatMisfire := false }).rollOpened st).setMode st .unloaded

/-- Placement by the operator: the first remaining entry begins (R31). -/
def State.place (st : Station) (s : State) : State := s.beginEntry st

end Sys2Proof.Machine
end

