-- ==== Sys2Proof/Machine/FaultRequests.lean ====
section
/-! DEFINITION. The requests of fault capture (R188 to R192). -/

namespace Sys2Proof.Machine

/-- The station of a station's unit (R184). -/
def Unit5.station? : Unit5 → Option Station
  | .stationA => some .a
  | .stationB => some .b
  | .stationD => some .d
  | .gen | .prn => none

/-! ### FAULT_READ (R188) -/

/-- What FAULT_READ reports of a unit (R188). -/
def State.captureReport (u : Unit5) (s : State) : ReplyBody :=
  match u.station? with
  | some st =>
    let q := s.seq st
    .stationCapture (s.flt.get u) q.faultMemory (q.mode == .fault) ((s.drive st).move == some .recovery)
  | none => if u = .gen then .genCapture s.flt.gen s.gen.mode else .prnCapture s.flt.prn s.prn.state

def answerFaultRead (f : UnitReq) (s : State) : Answer :=
  match unitOf? f.unit with
  | none => refuse s .badField
  | some u => taken s (s.captureReport u)

def execFaultRead (tag : Byte) (p : Payload UnitReq) (s : State) : Host.Outcome State Fault Refusal :=
  request .faultRead tag p answerFaultRead s

/-! ### FAULT_CLEAR (R189 to R192) -/

/-- The unit recovers: a station by R190 or R191; GEN and PRN do nothing more (R192). -/
def State.recoverUnit (u : Unit5) (s : State) : State :=
  match u.station? with
  | some st => s.recover st
  | none => s

def answerFaultClear (f : UnitReq) (s : State) : Answer :=
  match unitOf? f.unit with
  | none => refuse s .badField
  | some u =>
    if (s.flt.get u).isNone then refuse s .state
    else taken ((s.modFlt fun x => x.set u none).recoverUnit u)

def execFaultClear (tag : Byte) (p : Payload UnitReq) (s : State) : Host.Outcome State Fault Refusal :=
  request .faultClear tag p answerFaultClear s

end Sys2Proof.Machine
end

