-- ==== Sys2Proof/Machine/GeneratorCommands.lean ====
section
/-! DEFINITION. The commands at the generator: its requests, its lines and its timers (R74 to R79, R87 to R89). -/

namespace Sys2Proof.Machine

/-! ### GEN_READ (R89) -/

/-- The listed requests in station order, each with whether it is chosen (R89). -/
def Gen.listed (g : Gen) : List (GenRequest × Bool) :=
  allStations.filterMap fun st => (g.request? st).map fun r => (r, g.chosen == some st)

def answerGenRead (_ : Unit) (s : State) : Answer :=
  let g := s.gen
  taken s (.generator g.mode g.output g.heat g.listed g.holder g.lastGrant)

def execGenRead (tag : Byte) (p : Payload Unit) (s : State) : Host.Outcome State Fault Refusal :=
  request .genRead tag p answerGenRead s

/-! ### GEN_CLEAR (R88) -/

def answerGenClear (_ : Unit) (s : State) : Answer :=
  if s.gen.mode ≠ .fault then refuse s .state
  else if (s.flt.get .gen).isSome then refuse s .busy
  else taken (s.modGen fun g => { g with mode := .off, output := .safe }).raiseGen

def execGenClear (tag : Byte) (p : Payload Unit) (s : State) : Host.Outcome State Fault Refusal :=
  request .genClear tag p answerGenClear s

/-! ### The ready input (R74) -/

/-- The ready input has risen in CHARGING: READY, then a pending fire or the arbiter's choice (R74, R76). -/
def State.charged (s : State) : State :=
  let s := s.modGen fun g => { g with mode := .ready, chargeTimer := none }
  match s.gen.holder with
  | some { pending := some p, .. } => s.giveFire p
  | some { pending := none, .. } => s
  | none => s.choose

def State.readyRises (s : State) : State :=
  let s := s.modGen fun g => { g with readyInput := true }
  if s.gen.mode = .charging then s.charged else s

def execReadyInputRise (s : State) : Host.Outcome State Fault Refusal := event State.readyRises s

/-- The ready input falls: in READY the generator goes back to CHARGING and the chosen request ceases to be (R74, R83). -/
def State.readyFalls (s : State) : State :=
  let s := s.modGen fun g => { g with readyInput := false }
  if s.gen.mode = .ready then
    s.modGen fun g => { g with mode := .charging, chosen := none, chargeTimer := some Config.chargeTimeout }
  else s

def execReadyInputFall (s : State) : Host.Outcome State Fault Refusal := event State.readyFalls s

/-! ### The flash sensor and its window (R77) -/

/-- The level of the fire in FIRING: the power-level output (R72). -/
def Gen.firedEnergy (g : Gen) : Nat :=
  match g.output with
  | .level p => popEnergy p
  | .safe => 0

/-- The generator has left FIRING: the outcome goes to the grant holder, or with no holder the arbiter chooses. -/
def State.afterFiring (act : Station → State → State) (s : State) : State :=
  match s.gen.holder with
  | some h => s.popReport h.station (act h.station)
  | none => s.choose

/-- The flash sensor reports: in FIRING a completed pop (R77, R78). -/
def State.flashReported (s : State) : State :=
  if s.gen.mode = .firing then
    (s.modGen fun g =>
      ({ g with heat := g.heat + g.firedEnergy, windowTimer := none, idleTimer := some Config.idleTimeout }
        ).chargeOrReady).afterFiring State.confirmPop
  else s

def execFlashSensorReport (s : State) : Host.Outcome State Fault Refusal := event State.flashReported s

/-- The flash-confirm window expires: in FIRING a misfire (R77). -/
def State.windowExpired (s : State) : State :=
  if s.gen.mode = .firing ∧ s.gen.windowTimer.isSome then
    (s.modGen fun g => ({ g with windowTimer := none }).chargeOrReady).afterFiring State.misfire
  else s

def execFlashConfirmWindowExpiry (s : State) : Host.Outcome State Fault Refusal := event State.windowExpired s

/-! ### The charge timer (R75, R87) -/

/-- The capture of GEN_CHARGE_TIMEOUT: with a grant held, its holder's station, order and item, and the holder's roll and
next frame (R75, R185). -/
def State.chargeCapture (s : State) : Capture :=
  let c := bareCapture .genChargeTimeout
  match s.gen.holder with
  | none => c
  | some h =>
    let x := (s.seq h.station).context
    { c with station := some h.station, order := x.map ItemContext.order, item := x.map ItemContext.item
             roll := (s.rollAt h.station).map Roll.number, frame := (s.rollAt h.station).map Roll.next }

def State.chargeTimedOut (s : State) : State :=
  if s.gen.mode = .charging ∧ s.gen.chargeTimer.isSome then (s.capture .gen s.chargeCapture).enterGenFault else s

def execChargeTimerExpiry (s : State) : Host.Outcome State Fault Refusal := event State.chargeTimedOut s

/-! ### The idle timer (R79) -/

/-- The generator is idle: nothing listed, nothing granted, READY or CHARGING (R79). -/
abbrev Gen.idle (g : Gen) : Prop := g.requests = [] ∧ g.holder = none ∧ (g.mode = .ready ∨ g.mode = .charging)

def State.idleExpired (s : State) : State :=
  if s.gen.idleTimer.isSome then
    if s.gen.idle then
      (s.modGen fun g => { g with mode := .off, output := .safe, chargeTimer := none, idleTimer := none }).raiseGen
    else s.modGen fun g => { g with idleTimer := some Config.idleTimeout }
  else s

def execIdleDischarge (s : State) : Host.Outcome State Fault Refusal := event State.idleExpired s

/-! ### Cooling (R78, R83) -/

/-- A cooling expiry: one heat unit is shed, and a chosen request is tested again (R78, R83). -/
def State.cooled (s : State) : State :=
  (s.modGen fun g => { g with heat := g.heat - 1, coolingTimer := some Config.coolingInterval }).testChosen

def execCooling (s : State) : Host.Outcome State Fault Refusal := event State.cooled s

end Sys2Proof.Machine
end

