-- ==== Sys2Proof/Machine/Calendar.lean ====
section
/-! DEFINITION. Renderings: the date and the time of day (R148), and the frame code and bracket mark of a label (R163). -/

namespace Sys2Proof.Machine

/-- The character of a decimal digit. -/
def digitChar (n : Nat) : Byte := BitVec.ofNat 8 (0x30 + n % 10)

/-- The last two decimal digits of `n`, with leading zero. -/
def twoDigits (n : Nat) : Text := [digitChar (n / 10), digitChar n]

/-- Days in the year 2000 + `y` (R148). -/
def yearDays (y : Nat) : Nat := if y % 4 = 0 then 366 else 365

/-- Days in the months of the year 2000 + `y` (R148). -/
def monthDays (y : Nat) : List Nat := [31, if y % 4 = 0 then 29 else 28, 31, 30, 31, 30, 31, 31, 30, 31, 30, 31]

/-- Count off the years from 2000: the year less 2000 and the days left, over at most `fuel` years. -/
def countYears : Nat → Nat → Nat → Nat × Nat
  | 0, y, days => (y, days)
  | fuel + 1, y, days => if days < yearDays y then (y, days) else countYears fuel (y + 1) (days - yearDays y)

/-- Count off the months: the month from `m` on and the days left. -/
def countMonths : List Nat → Nat → Nat → Nat × Nat
  | [], m, days => (m, days)
  | d :: ds, m, days => if days < d then (m, days) else countMonths ds (m + 1) (days - d)

/-- DD.MM.YY of a clock value (R148). -/
def renderDate (v : Nat) : Text :=
  let (y, days) := countYears 100 0 (v / 1440)
  let (m, left) := countMonths (monthDays y) 1 days
  twoDigits (left + 1) ++ [0x2E] ++ twoDigits m ++ [0x2E] ++ twoDigits y

/-- HH:MM of a clock value (R146, R148). -/
def renderTime (v : Nat) : Text :=
  let minute := v % 1440
  twoDigits (minute / 60) ++ [0x3A] ++ twoDigits (minute % 60)

end Sys2Proof.Machine
end

