-- ==== Sys2Proof/Machine/Labels.lean ====
section
/-! DEFINITION. The label composer: the queue, the template store, the waiting head, composition (R149, R150, R156, R162 to
R168). -/

namespace Sys2Proof.Machine

/-! ### The label queue -/

/-- Whether a job is at the printer (R149). -/
def LabelJob.isSent (j : LabelJob) : Bool := j.state.seq?.isSome

/-- The waiting head: the first job that is not SENT (R149). -/
def Lbl.head? (l : Lbl) : Option LabelJob := l.jobs.find? fun j => !j.isSent

/-- A function applied to the first member of a list that satisfies a test. -/
def updateFirst {α : Type} (p : α → Bool) (f : α → α) : List α → List α
  | [] => []
  | a :: l => if p a then f a :: l else a :: updateFirst p f l

/-- Change the waiting head. -/
def State.modHead (f : LabelJob → LabelJob) (s : State) : State :=
  s.modLbl fun l => { l with jobs := updateFirst (fun j => !j.isSent) f l.jobs }

/-- Whether a label job for a frame is present. -/
def Lbl.hasJobFor (l : Lbl) (roll frame : Nat) : Bool := l.jobs.any fun j => j.roll == roll && j.frame == frame

/-! ### The template store (R156) -/

/-- The index, from 0, of the slot that carries an id as its tag. -/
def Lbl.slotOf? (l : Lbl) (id : Nat) : Option Nat := l.slots.findIdx? fun x => x.tag == some id

/-- The content of a template resident with content. -/
def Lbl.content? (l : Lbl) (id : Nat) : Option (List (List Piece)) :=
  (l.slots.find? fun x => x.tag == some id).bind TemplateSlot.content

/-- The slot of an index moves to the front of the LRU order, which names slots by number (R156). -/
def Lbl.touch (i : Nat) (l : Lbl) : Lbl := { l with lru := (i + 1) :: l.lru.filter fun n => n != i + 1 }

/-- The slot of an index is unlocked. -/
def Lbl.unlockedAt (l : Lbl) (i : Nat) : Bool :=
  match l.slots[i]? with
  | some x => !x.locked
  | none => false

/-- The index of the slot found for an id that is not resident: the lowest-numbered empty slot, else the unlocked slot
last in the LRU order (R156). -/
def Lbl.findSlot? (l : Lbl) : Option Nat :=
  match l.slots.findIdx? fun x => x.tag == none with
  | some i => some i
  | none => ((l.lru.filter fun n => l.unlockedAt (n - 1)).getLast?).map fun n => n - 1

/-- The tag of the slot of an index. -/
def Lbl.tagAt (l : Lbl) (i : Nat) : Option Nat := l.slots[i]?.bind TemplateSlot.tag

/-- Replace the slot of an index. -/
def Lbl.setSlot (i : Nat) (x : TemplateSlot) (l : Lbl) : Lbl := { l with slots := l.slots.set i x }

/-- The slot of an index is emptied and leaves the LRU order (R156). -/
def Lbl.emptyAt (i : Nat) (l : Lbl) : Lbl :=
  { l with slots := l.slots.set i emptySlot, lru := l.lru.filter fun n => n != i + 1 }

/-! ### The waiting head (R162) -/

/-- A job can be taken: it has lines, or its template is resident with content (R162). -/
def Lbl.ready (l : Lbl) (j : LabelJob) : Bool := j.lines.isSome || (l.content? j.template).isSome

/-- The examination of the waiting head, but for telling the printer link (R162). -/
def State.examineHead (s : State) : State :=
  match s.lbl.head? with
  | none => s
  | some j =>
    if s.lbl.ready j then s.modHead fun j => { j with state := .queued }
    else if j.state = .templateWait then s
    else (s.modHead fun j => { j with state := .templateWait }).raise (.templateNeeded j.template j.roll j.frame)

/-! ### Queuing (R150, R151, R152) -/

/-- The order that a frame record names (R149). -/
def State.orderOf (s : State) (f : Frame) : Option Order := f.exposure.bind fun e => s.order? e.order

/-- A job joins at the end of the queue, and its frame's label state follows R150. The template id is that of the order
the frame names; where that order is gone it is a free value (log entry 9). -/
def State.queueJob (f : Frame) (charge : Bool) (s : State) : State :=
  let template := match s.orderOf f with
    | some o => o.template
    | none => (Config.freeTemplate s.free).toNat % 255 + 1
  let s := if (s.orderOf f).isSome then s else s.useFree
  (s.modLbl fun l =>
    { l with jobs := l.jobs ++ [{ roll := f.roll, frame := f.number, template := template, charge := charge
                                  state := .queued, lines := none }] }).modFrame f.roll f.number
    fun x => { x with label := if x.label = .none then .queued else x.label }

/-- The frames LABEL_ROLL takes (R151). -/
def State.labelEligible (s : State) (n : Nat) : List Frame :=
  (s.framesOf n).filter fun f => f.verdict == .keep && f.label == .none

/-! ### Composition (R164 to R166) -/

/-- FRAMECODE (R165). -/
def frameCode (f : Frame) : Text :=
  twoDigits (f.roll / 100) ++ twoDigits f.roll ++ [0x2D, digitChar (f.number / 100)] ++ twoDigits f.number

/-- The decimal digits of a number below 100, without leading zero. -/
def shortDecimal (n : Nat) : Text := if n < 10 then [digitChar n] else twoDigits n

/-- A BRACKET offset in stops: the sign and the reduced fraction of twelfths (R166). -/
def stopsText (offset : Int) : Text :=
  let g := Nat.gcd offset.natAbs 12
  let n := offset.natAbs / g
  let d := 12 / g
  (if offset < 0 then [0x2D] else [0x2B]) ++ shortDecimal n ++ (if d = 1 then [] else [0x2F] ++ shortDecimal d)

/-- BRACKETMARK (R166). -/
def bracketMark (f : Frame) : Text :=
  match f.exposure with
  | none => []
  | some e => match e.kind with
    | .centre | .copy => [0x43]
    | .bracket => stopsText e.offset

/-- The text of a field for a frame; empty where what it is read from is absent (R164, R165; log entry 9). -/
def State.fieldText (s : State) (f : Frame) : LabelField → Text
  | .call => match (s.orderOf f).bind fun o => f.exposure.bind fun e => o.item? e.item with
    | some i => i.callNumber
    | none => []
  | .title => match (s.orderOf f).bind fun o => f.exposure.bind fun e => o.item? e.item with
    | some i => i.title.getD []
    | none => []
  | .note => match (s.orderOf f).bind fun o => f.exposure.bind fun e => o.item? e.item with
    | some i => i.note.getD []
    | none => []
  | .lecturer => match s.orderOf f with
    | some o => o.lecturer
    | none => []
  | .account => match (s.orderOf f).bind fun o => s.account? o.account with
    | some a => a.name
    | none => []
  | .date => match f.date with
    | some v => renderDate v
    | none => []
  | .frameCode => frameCode f
  | .bracketMark => bracketMark f

/-- A line of 24 characters or fewer as it is, a longer one cut to 23 and a tilde (R164). -/
def cutLine (t : Text) : Text := if t.length ≤ Config.lineWidth then t else t.take (Config.lineWidth - 1) ++ [0x7E]

/-- A composed line (R164). -/
def State.composeLine (s : State) (f : Frame) (pieces : List Piece) : Text :=
  cutLine (pieces.flatMap fun
    | .literal t => t
    | .field x => s.fieldText f x)

/-- The four composed lines of a label: those of the template's lines, and empty ones (R164). -/
def State.composeLabel (s : State) (f : Frame) (lines : List (List Piece)) : List Text :=
  let made := lines.map (s.composeLine f)
  made ++ List.replicate (4 - made.length) []

/-! ### Taking (R163) -/

/-- The lines of a job as it is taken: those it has, else composed now (R163). -/
def State.linesOf (s : State) (j : LabelJob) : List Text :=
  match j.lines with
  | some l => l
  | none => match s.lbl.content? j.template, s.frame? j.roll j.frame with
    | some lines, some f => s.composeLabel f lines
    | _, _ => []

/-- The slot whose content a first taking uses moves to the front (R156, R163). -/
def Lbl.touchFor (j : LabelJob) (l : Lbl) : Lbl :=
  if j.lines.isSome then l
  else match l.slotOf? j.template with
    | some i => l.touch i
    | none => l

/-- The waiting head `j` is taken with a printer sequence number, and the next one examined (R163). -/
def State.takeHead (j : LabelJob) (seq : Nat) (s : State) : State :=
  let lines := s.linesOf j
  ((s.modLbl (Lbl.touchFor j)).modHead fun j => { j with state := .sent seq, lines := some lines }).examineHead

/-! ### Completion and return (R150, R167) -/

/-- The job SENT with a sequence number. -/
def Lbl.sentJob? (l : Lbl) (seq : Nat) : Option LabelJob := l.jobs.find? fun j => j.state == .sent seq

/-- A frame becomes PRINTED, and R113 is tested (R150, R167). -/
def State.framePrinted (roll frame : Nat) (s : State) : State :=
  let before := s.labelled roll
  (s.modFrame roll frame fun f => { f with label := .printed }).testLabelled roll before

/-- A completed job leaves the queue (R167). -/
def State.removeSent (seq : Nat) (s : State) : State :=
  s.modLbl fun l => { l with jobs := l.jobs.filter fun j => !(j.state == .sent seq) }

/-- A job as jobs are returned: a returned one is QUEUED with its lines; a head that waited for a template ceases to be
the head and goes back to QUEUED (R162, R167). -/
def LabelJob.afterReturn (seqs : List Nat) (j : LabelJob) : LabelJob :=
  match j.state with
  | .sent n => if n ∈ seqs then { j with state := .queued } else j
  | .templateWait => if seqs = [] then j else { j with state := .queued }
  | .queued => j

/-- Jobs are returned, and the new waiting head examined (R167). -/
def State.returnJobs (seqs : List Nat) (s : State) : State :=
  (s.modLbl fun l => { l with jobs := l.jobs.map (LabelJob.afterReturn seqs) }).examineHead

/-! ### Labels across resets (R150, R168) -/

/-- A frame after a warm or stand reset: marked UNCERTAIN where its label was at the printer (R150, R168). -/
def Lbl.frameAfterReset (l : Lbl) (f : Frame) : Frame :=
  let jobs := l.jobs.filter fun j => j.roll == f.roll && j.frame == f.number
  if jobs.any LabelJob.isSent then
    { f with uncertain := true
             label := if f.label = .queued ∧ jobs.all LabelJob.isSent then .none else f.label }
  else f

/-- The label queue after a warm or stand reset: SENT jobs gone, the rest QUEUED (R168). -/
def Lbl.afterReset (l : Lbl) : Lbl :=
  { l with jobs := (l.jobs.filter fun j => !j.isSent).map fun j => { j with state := .queued } }

end Sys2Proof.Machine
end

