-- ==== Sys2Proof/Machine/Printer.lean ====
section
/-! DEFINITION. The printer link: its receiver, sending, completion, return, faults and timeouts (R169 to R183). -/

namespace Sys2Proof.Machine

/-! ### The receiver (R170) -/

/-- A frame of the printer that is not bad. -/
inductive PrinterEvent
  | done (seq : Nat)
  | fault (seq : Nat) (code : PrinterCode) (named : Nat)
  | ready (seq : Nat)
deriving DecidableEq, Repr

/-- What the receiver's last character ended. -/
inductive PrinterGot
  | nothing
  | bad
  | good (e : PrinterEvent)
deriving DecidableEq, Repr

/-- The number a sequence character stands for (R169). -/
def sequenceOf? (b : Byte) : Option Nat :=
  let n := b.toNat
  if 0x30 ≤ n ∧ n ≤ 0x39 then some (n - 0x30)
  else if 0x41 ≤ n ∧ n ≤ 0x46 then some (n - 0x41 + 10)
  else none

/-- The fault a code character names (R169). -/
def printerCode? (b : Byte) : Option PrinterCode :=
  if b = 0x4E then some .noStock else if b = 0x4A then some .jam else if b = 0x48 then some .head else none

/-- The event that the characters between STX and ETX stand for, if any (R169, R170). -/
def printerEvent? : List Byte → Option PrinterEvent
  | [q, k] => match sequenceOf? q with
    | some n => if k = 0x44 then some (.done n) else if k = 0x59 then some (.ready n) else none
    | none => none
  | [q, k, c, m] => match sequenceOf? q, printerCode? c, sequenceOf? m with
    | some n, some f, some named => if k = 0x46 then some (.fault n f named) else none
    | _, _, _ => none
  | _ => none

/-- The judgement of a frame, its characters from the STX to the check character (R170). -/
def judgePrinterFrame (cs : List PrinterChar) : PrinterGot :=
  let bytes := cs.map PrinterChar.char
  let covered := (bytes.drop 1).dropLast
  if cs.any PrinterChar.parityError then .bad
  else if bytes.getLast? ≠ some (covered.foldl (fun x b => x ^^^ b) 0) then .bad
  else match printerEvent? covered.dropLast with
    | some e => .good e
    | none => .bad

/-- The next character is the check character: the last of the characters from the STX on is an ETX
(R169, R170). -/
def checkDue (cs : List PrinterChar) : Bool := decide (2 ≤ cs.length) && cs.getLast?.map PrinterChar.char == some 0x03

/-- One character taken by the receiver (R170). The fifth character after the STX that is no ETX ends the frame as bad at
once, and the receiver hunts from the next one: R170 calls such a frame bad and does not say whether its later characters
are gathered, so this is the model's choice (log entry 31). -/
def PrinterReceiver.take (r : PrinterReceiver) (c : PrinterChar) : PrinterReceiver × PrinterGot :=
  match r with
  | .hunting => if c.char = 0x02 then (.collecting [c], .nothing) else (.hunting, .nothing)
  | .collecting cs =>
    let all := cs ++ [c]
    if checkDue cs then (.hunting, judgePrinterFrame all)
    else if c.char = 0x02 then (.collecting [c], .bad)
    else if c.char ≠ 0x03 ∧ 6 ≤ all.length then (.hunting, .bad)
    else (.collecting all, .nothing)

/-- Characters taken one after another. -/
def PrinterReceiver.takeAll (r : PrinterReceiver) : List PrinterChar → PrinterReceiver × List PrinterGot
  | [] => (r, [])
  | c :: cs =>
    let (r', got) := r.take c
    let (r'', rest) := PrinterReceiver.takeAll r' cs
    (r'', got :: rest)

/-! ### The link state -/

/-- The link enters a state; the paused-for-slot flag clears when it leaves IDLE and SENDING (R173). -/
def State.setLink (x : LinkState) (s : State) : State :=
  s.modPrn fun p =>
    if x = .idle ∨ x = .sending then { p with state := x }
    else { p with state := x, paused := false, roomReport := false }

/-- A Q is sent: it carries the next printer sequence number and does not consume it (R169). -/
def State.sendAsk (s : State) : State := s.emit (.printerFrame (onLine (askFrame s.prn.nextSeq)))

/-! ### Sending (R173, R174) -/

/-- The head a sending attempt may send: conditions 1 to 3 of R173. -/
def State.sendable (s : State) : Option LabelJob :=
  if (s.prn.state = .idle ∨ s.prn.state = .sending) ∧ s.prn.inFlight.length < s.prn.window then
    match s.lbl.head? with
    | some j => if j.state = .queued ∧ s.lbl.ready j then some j else none
    | none => none
  else none

/-- One job sent, its slot reserved where it is charged (R173, R174). -/
def State.sendJob (j : LabelJob) (s : State) : State :=
  let seq := s.prn.nextSeq
  let lines := s.linesOf j
  let s := if j.charge then s.reserveSlot else s
  (((s.takeHead j seq).modPrn fun p =>
    { p with nextSeq := (seq + 1) % 16
             inFlight := p.inFlight ++ [{ roll := j.roll, frame := j.frame, seq := seq, slotHeld := j.charge }]
             paused := false, roomReport := false
             printerTimer := if p.inFlight = [] then some Config.printerTimeout else p.printerTimer }).setLink
    .sending).emit (.printerFrame (onLine (printFrame seq lines)))

/-- A sending attempt of at most `fuel` jobs (R173). -/
def sendJobs : Nat → State → State
  | 0, s => s
  | fuel + 1, s => match s.sendable with
    | none => s
    | some j =>
      if j.charge ∧ ¬ s.jnl.hasRoom then s.modPrn fun p => { p with paused := true }
      else sendJobs fuel (s.sendJob j)

/-- A sending attempt: it sends until the window is full (R173). -/
def State.attempt (s : State) : State := sendJobs (s.prn.window + 1) s

/-- The examination of the waiting head, with the printer link told of a ready one (R162, R173). -/
def State.examine (s : State) : State :=
  let s := s.examineHead
  match s.lbl.head? with
  | some j => if s.lbl.ready j then s.attempt else s
  | none => s

/-! ### Completion (R130, R175) -/

/-- The mount posting of a frame: the account's mounted amount and the MOUNT entry in the held slot (R130). Where the
frame's order or its account is gone, the account slot and the rate are free values (log entry 9). -/
def State.postMount (roll frame : Nat) (s : State) : State :=
  let f := s.frame? roll frame
  let e := f.bind Frame.exposure
  let named := (f.bind s.orderOf).map Order.account
  let slot := named.getD ((Config.freeAccount s.free).toNat + 1)
  let rate := match s.account? slot with
    | some a => (s.acc.tariffs.get a.cls).mount
    | none => (Config.freeMoney s.free).toNat % 10000
  let date := s.stamp
  let t := s.mountAccount slot rate
  let t := if named.isSome ∧ (s.account? slot).isSome then t else t.useFree
  t.appendEntry true fun n =>
    { seq := n, kind := .mount, account := slot, amount := rate, order := e.map Exposure.order
      item := e.map Exposure.item, roll := some roll, frame := some frame, date := date }

/-- The oldest job in flight completes (R175). -/
def State.completeOldest (s : State) : State :=
  match s.prn.inFlight with
  | [] => s
  | x :: rest =>
    let charged := match s.lbl.sentJob? x.seq with
      | some j => j.charge
      | none => false
    let s := (s.modPrn fun p => { p with inFlight := rest }).framePrinted x.roll x.frame
    (if charged then s.postMount x.roll x.frame else s).removeSent x.seq

/-- The `n` oldest jobs in flight complete, oldest first (R178). -/
def completeMany : Nat → State → State
  | 0, s => s
  | n + 1, s => completeMany n s.completeOldest

/-! ### Return (R176) -/

/-- The slots of returned jobs handed back, one room report each (R176). -/
def handBackSlots (xs : List InFlight) (s : State) : State :=
  xs.foldl (fun t x => if x.slotHeld then t.handBackSlot else t) s

/-- Every job of the in-flight list is returned (R176). -/
def State.returnAll (s : State) : State :=
  let xs := s.prn.inFlight
  (handBackSlots xs (s.modPrn fun p => { p with inFlight := [] })).returnJobs (xs.map InFlight.seq)

/-- DUPLICATE_RISK set on the frames of jobs (R178, R180). -/
def State.markRisk (xs : List InFlight) (s : State) : State :=
  xs.foldl (fun t x => t.modFrame x.roll x.frame fun f => { f with duplicateRisk := true }) s

/-! ### What the printer reports (R177 to R181) -/

/-- The link is at rest after its timers stop: HELD (R177, R178). -/
def State.toHeld (s : State) : State :=
  (s.modPrn fun p => { p with printerTimer := none, statusTimer := none }).setLink .held

/-- A capture of the printer link with a job's frame. -/
def jobCapture (kind : FaultKind) (x : Option InFlight) : Capture :=
  { bareCapture kind with roll := x.map InFlight.roll, frame := x.map InFlight.frame }

/-- A D is received (R177). -/
def State.printerDone (seq : Nat) (s : State) : State :=
  match s.prn.state, s.prn.inFlight with
  | .sending, x :: _ =>
    if x.seq = seq then
      let s := s.completeOldest
      (if s.prn.inFlight = [] then (s.modPrn fun p => { p with printerTimer := none }).setLink .idle
       else s.modPrn fun p => { p with printerTimer := some Config.printerTimeout }).attempt
    else ((s.capture .prn (jobCapture .outOfOrder (some x))).returnAll).toHeld
  | _, _ => s

/-- The fault a code names (R178). -/
def codeFault : PrinterCode → FaultKind
  | .noStock => .noStock
  | .jam => .printerJam
  | .head => .head

/-- What an F does to the jobs in flight (R178). -/
def State.settleJobs (named : Nat) (s : State) : State :=
  match s.prn.inFlight.findIdx? fun x => x.seq == named with
  | some k => (completeMany k s).returnAll
  | none =>
    if named = s.prn.nextSeq then completeMany s.prn.inFlight.length s
    else (s.returnAll).markRisk s.prn.inFlight

/-- An F is received (R178). -/
def State.printerFault (code : PrinterCode) (named : Nat) (s : State) : State :=
  match s.prn.state with
  | .off => s
  | .sending =>
    ((s.capture .prn (jobCapture (codeFault code) (s.prn.inFlight.find? fun x => x.seq == named))).settleJobs
      named).toHeld
  | .idle | .held | .asking | .down =>
    (s.capture .prn (jobCapture (codeFault code) (s.prn.inFlight.find? fun x => x.seq == named))).toHeld

/-- A Y is received (R179, R181). -/
def State.printerReady (s : State) : State :=
  match s.prn.state with
  | .held | .asking | .down => ((s.modPrn fun p => { p with statusTimer := none }).setLink .idle).attempt
  | .off | .idle | .sending => s

/-- The printer timer expires (R180). -/
def State.printerTimedOut (s : State) : State :=
  if s.prn.state = .sending ∧ s.prn.printerTimer.isSome then
    let s := s.capture .prn (jobCapture .printerTimeout s.prn.inFlight.head?)
    let s := ((s.markRisk s.prn.inFlight).returnAll).sendAsk
    (s.modPrn fun p => { p with printerTimer := none, statusTimer := some Config.statusWait }).setLink .asking
  else s

/-- The status wait expires (R181). -/
def State.statusWaited (s : State) : State :=
  match s.prn.state with
  | .asking | .down =>
    if s.prn.statusTimer.isSome then
      (s.sendAsk.modPrn fun p => { p with statusTimer := some Config.statusWait }).setLink .down
    else s
  | .off | .idle | .sending | .held => s

end Sys2Proof.Machine
end

