-- ==== Sys2Proof/Machine/JournalRequests.lean ====
section
/-! DEFINITION. The requests of the journal and of the day clock, the minute timer, and the requests of the waiting writers
(R140, R142, R143, R145, R146). -/

namespace Sys2Proof.Machine

/-! ### JOURNAL_READ (R142) -/

def answerJournalRead (f : JournalReadReq) (s : State) : Answer :=
  if ¬ within 1 8 f.count then refuse s .badField
  else taken s (.journal s.jnl.entries.length s.jnl.reserved s.jnl.free s.jnl.next (s.jnl.entries.take f.count))

def execJournalRead (tag : Byte) (p : Payload JournalReadReq) (s : State) : Host.Outcome State Fault Refusal :=
  request .journalRead tag p answerJournalRead s

/-! ### JOURNAL_RELEASE (R143) -/

/-- The entries left once those at or below a number are removed from the head of the list (R143). -/
def releasedList (number : Nat) (l : List JournalEntry) : List JournalEntry := l.dropWhile fun e => decide (e.seq ≤ number)

def answerJournalRelease (f : JournalReleaseReq) (s : State) : Answer :=
  if ¬ within 1 4294967295 f.number then refuse s .badField
  else if s.jnl.next - 1 < f.number then refuse s .notFound
  else
    let rest := releasedList f.number s.jnl.entries
    let removed := s.jnl.entries.length - rest.length
    let t := s.modJnl fun j => { j with entries := rest }
    taken (if 0 < removed then t.roomReport else t)
      (.released removed rest.length (rest.head?.map JournalEntry.seq))

def execJournalRelease (tag : Byte) (p : Payload JournalReleaseReq) (s : State) : Host.Outcome State Fault Refusal :=
  request .journalRelease tag p answerJournalRelease s

/-! ### CLOCK_SET and CLOCK_READ (R146) -/

def answerClockSet (f : ClockSetReq) (s : State) : Answer :=
  if Config.maxMinutes < f.value then refuse s .badField
  else taken (s.modClk fun _ =>
      { minutes := f.value, timer := if f.value = 0 then none else some Config.minuteInterval })
    (.clockWas s.clk.minutes)

def execClockSet (tag : Byte) (p : Payload ClockSetReq) (s : State) : Host.Outcome State Fault Refusal :=
  request .clockSet tag p answerClockSet s

def answerClockRead (_ : Unit) (s : State) : Answer :=
  let v := s.clk.minutes
  if v = 0 then taken s (.clock v none none) else taken s (.clock v (some (renderDate v)) (some (renderTime v)))

def execClockRead (tag : Byte) (p : Payload Unit) (s : State) : Host.Outcome State Fault Refusal :=
  request .clockRead tag p answerClockRead s

/-! ### The minute timer (R145) -/

/-- The minute timer expires: the clock rises by one, but for its highest value (R145). -/
def State.minutePassed (s : State) : State :=
  if s.clk.timer.isSome then
    s.modClk fun c =>
      { minutes := if c.minutes = 0 ∨ Config.maxMinutes ≤ c.minutes then c.minutes else c.minutes + 1
        timer := some Config.minuteInterval }
  else s

def execMinuteTimerExpiry (s : State) : Host.Outcome State Fault Refusal := event State.minutePassed s

/-! ### The waiting writers (R33, R140, R173) -/

/-- A waiting station that a room report has reached asks again: with a slot it goes on with its entry, else it goes on
waiting (R33, R140). -/
def State.askSlotAgain (st : Station) (s : State) : State :=
  if (s.seq st).roomReport ∧ s.waitsForSlot st then
    let s := s.modSeq st fun q => { q with roomReport := false }
    if s.jnl.hasRoom then (s.takeSlot st).claim false st else s
  else s

def execStationSlotRequest (st : Station) (s : State) : Host.Outcome State Fault Refusal :=
  event (State.askSlotAgain st) s

/-- The paused printer link that a room report has reached makes a sending attempt (R140, R173). -/
def State.attemptAgain (s : State) : State :=
  if s.prn.roomReport ∧ s.prn.paused then (s.modPrn fun p => { p with roomReport := false }).attempt else s

def execPrinterSlotRequest (s : State) : Host.Outcome State Fault Refusal := event State.attemptAgain s

end Sys2Proof.Machine
end

