-- ==== Sys2Proof/Machine/LabelRequests.lean ====
section
/-! DEFINITION. The requests of the label composer (R151 to R155, R157 to R161). -/

namespace Sys2Proof.Machine

/-! ### LABEL_ROLL and LABEL_FRAME (R151, R152) -/

/-- The head is examined when the queue has gained one where it had none (R151, R152, R162). -/
def State.examineNew (had : Bool) (s : State) : State := if had then s else s.examine

def answerLabelRoll (f : RollReq) (s : State) : Answer :=
  if ¬ within 1 9999 f.roll then refuse s .badField
  else match s.roll? f.roll with
    | none => refuse s .notFound
    | some r =>
      if r.state ≠ .out then refuse s .state
      else
        let eligible := s.labelEligible f.roll
        let now := eligible.take (Config.maxJobs - s.lbl.jobs.length)
        let t := now.foldl (fun t x => t.queueJob x true) s
        taken (t.examineNew s.lbl.head?.isSome) (.labelsQueued now.length (eligible.length - now.length))

def execLabelRoll (tag : Byte) (p : Payload RollReq) (s : State) : Host.Outcome State Fault Refusal :=
  request .labelRoll tag p answerLabelRoll s

def answerLabelFrame (f : LabelFrameReq) (s : State) : Answer :=
  if ¬ (within 1 9999 f.roll ∧ within 1 250 f.frame) then refuse s .badField
  else if (s.roll? f.roll).isNone then refuse s .notFound
  else match s.frame? f.roll f.frame with
    | none => refuse s .notFound
    | some x =>
      if x.verdict ≠ .keep then refuse s .state
      else if Config.maxJobs ≤ s.lbl.jobs.length then refuse s .full
      else taken ((s.queueJob x f.charge).examineNew s.lbl.head?.isSome) (.labelPosition (s.lbl.jobs.length + 1))

def execLabelFrame (tag : Byte) (p : Payload LabelFrameReq) (s : State) : Host.Outcome State Fault Refusal :=
  request .labelFrame tag p answerLabelFrame s

/-! ### LABEL_CANCEL (R150, R153) -/

/-- A job that LABEL_CANCEL removes (R153). -/
def LabelJob.cancels (roll : Nat) (j : LabelJob) : Bool := j.roll == roll && !j.isSent

/-- The jobs removed, and the frames of the roll left with none: QUEUED becomes NONE (R150, R153). -/
def State.cancelJobs (roll : Nat) (s : State) : State :=
  let s := s.modLbl fun l => { l with jobs := l.jobs.filter fun j => !j.cancels roll }
  s.modRol fun t =>
    { t with frames := t.frames.map fun x =>
        if x.roll = roll ∧ x.label = .queued ∧ ¬ s.lbl.hasJobFor x.roll x.number then { x with label := .none } else x }

def answerLabelCancel (f : RollReq) (s : State) : Answer :=
  if ¬ within 1 9999 f.roll then refuse s .badField
  else if (s.roll? f.roll).isNone then refuse s .notFound
  else
    let removed := (s.lbl.jobs.filter (LabelJob.cancels f.roll)).length
    let sent := (s.lbl.jobs.filter fun j => j.roll == f.roll && j.isSent).length
    let headGone := s.lbl.head?.any (LabelJob.cancels f.roll)
    let t := s.cancelJobs f.roll
    taken (if headGone then t.examine else t) (.labelsCancelled removed sent)

def execLabelCancel (tag : Byte) (p : Payload RollReq) (s : State) : Host.Outcome State Fault Refusal :=
  request .labelCancel tag p answerLabelCancel s

/-! ### LABEL_READ (R154) -/

/-- The waiting head's position and whether it is in TEMPLATE_WAIT (R154). -/
def Lbl.headReport (l : Lbl) : Option HeadReport :=
  match l.jobs.findIdx? fun j => !j.isSent, l.head? with
  | some k, some j => some { position := k + 1, waiting := j.state == .templateWait }
  | _, _ => none

def answerLabelRead (f : LabelReadReq) (s : State) : Answer :=
  if ¬ (within 1 96 f.first ∧ within 1 8 f.count) then refuse s .badField
  else taken s (.labels s.lbl.jobs.length (s.lbl.jobs.filter LabelJob.isSent).length s.lbl.headReport
    ((s.lbl.jobs.drop (f.first - 1)).take f.count))

def execLabelRead (tag : Byte) (p : Payload LabelReadReq) (s : State) : Host.Outcome State Fault Refusal :=
  request .labelRead tag p answerLabelRead s

/-! ### TEMPLATE_LOAD (R155 to R157) -/

def answerTemplateLoad (f : TemplateLoadReq) (s : State) : Answer :=
  if ¬ templateInRange f then refuse s .badField
  else match s.lbl.slotOf? f.template with
    | some i =>
      let t := s.modLbl fun l =>
        Lbl.touch i { l with slots := l.slots.modify i fun x => { x with content := some f.lines } }
      taken t.examine (.templateSlot (i + 1) none)
    | none => match s.lbl.findSlot? with
      | none => refuse s .storeFull
      | some i =>
        let t := s.modLbl fun l =>
          (l.setSlot i { tag := some f.template, locked := false, content := some f.lines }).touch i
        taken t.examine (.templateSlot (i + 1) (s.lbl.tagAt i))

def execTemplateLoad (tag : Byte) (p : Payload TemplateLoadReq) (s : State) : Host.Outcome State Fault Refusal :=
  request .templateLoad tag p answerTemplateLoad s

/-! ### TEMPLATE_LOCK (R158) -/

def answerTemplateLock (f : TemplateReq) (s : State) : Answer :=
  if ¬ within 1 255 f.template then refuse s .badField
  else match s.lbl.slotOf? f.template with
    | some i =>
      taken (s.modLbl fun l => Lbl.touch i { l with slots := l.slots.modify i fun x => { x with locked := true } })
        (.templateSlot (i + 1) none)
    | none => match s.lbl.findSlot? with
      | none => refuse s .storeFull
      | some i =>
        let t := s.modLbl fun l => (l.setSlot i { tag := some f.template, locked := true, content := none }).touch i
        taken (if (s.lbl.tagAt i).isSome then t.examine else t) (.templateSlot (i + 1) (s.lbl.tagAt i))

def execTemplateLock (tag : Byte) (p : Payload TemplateReq) (s : State) : Host.Outcome State Fault Refusal :=
  request .templateLock tag p answerTemplateLock s

/-! ### TEMPLATE_UNLOCK (R159) -/

def answerTemplateUnlock (f : TemplateReq) (s : State) : Answer :=
  if ¬ within 1 255 f.template then refuse s .badField
  else match s.lbl.slotOf? f.template with
    | none => refuse s .notResident
    | some i =>
      if (s.lbl.content? f.template).isSome then
        taken (s.modLbl fun l => { l with slots := l.slots.modify i fun x => { x with locked := false } })
      else taken (s.modLbl (Lbl.emptyAt i))

def execTemplateUnlock (tag : Byte) (p : Payload TemplateReq) (s : State) : Host.Outcome State Fault Refusal :=
  request .templateUnlock tag p answerTemplateUnlock s

/-! ### TEMPLATE_DROP (R160) -/

def answerTemplateDrop (f : TemplateReq) (s : State) : Answer :=
  if ¬ within 1 255 f.template then refuse s .badField
  else match s.lbl.slotOf? f.template with
    | none => refuse s .notResident
    | some i =>
      if s.lbl.unlockedAt i then taken (s.modLbl (Lbl.emptyAt i)).examine else refuse s .busy

def execTemplateDrop (tag : Byte) (p : Payload TemplateReq) (s : State) : Host.Outcome State Fault Refusal :=
  request .templateDrop tag p answerTemplateDrop s

/-! ### TEMPLATE_READ (R161) -/

/-- A slot's position in the LRU order, absent for an empty slot (R161). -/
def Lbl.lruPosition (l : Lbl) (i : Nat) : Option Nat := (l.lru.findIdx? fun n => n == i + 1).map (· + 1)

/-- The slots in slot order, each with its position in the LRU order (R161). -/
def Lbl.report (l : Lbl) : List (TemplateSlot × Option Nat) :=
  l.slots.zipIdx.map fun x => (x.1, l.lruPosition x.2)

def answerTemplateRead (f : TemplateReq) (s : State) : Answer :=
  if 255 < f.template then refuse s .badField
  else if f.template = 0 then taken s (.templates s.lbl.report false false none)
  else
    let content := s.lbl.content? f.template
    taken s (.templates s.lbl.report true content.isSome content)

def execTemplateRead (tag : Byte) (p : Payload TemplateReq) (s : State) : Host.Outcome State Fault Refusal :=
  request .templateRead tag p answerTemplateRead s

end Sys2Proof.Machine
end

