-- ==== Sys2Proof/Machine/LinkCommands.lean ====
section
/-! DEFINITION. The requests of the link controller, its gap timer and its transmitter (R196, R199, R201). -/

namespace Sys2Proof.Machine

/-! ### IDENT and STATUS (R201) -/

def answerIdent (_ : Unit) (s : State) : Answer := taken s (.ident Config.siliconRevision)

def execIdent (tag : Byte) (p : Payload Unit) (s : State) : Host.Outcome State Fault Refusal :=
  request .ident tag p answerIdent s

def answerStatus (_ : Unit) (s : State) : Answer :=
  let l := s.lnk
  taken (s.modLnk fun l => { l with noticeOverflow := false, requestOverflow := false })
    (.status l.noticeOverflow l.requestOverflow l.notices.length l.replies.length l.rate l.lastReset)

def execStatus (tag : Byte) (p : Payload Unit) (s : State) : Host.Outcome State Fault Refusal :=
  request .status tag p answerStatus s

/-! ### The receiver (R196) -/

/-- The receiver after characters, its gap timer running while it collects (R196). -/
def State.receive (r : Receiver) (s : State) : State :=
  s.modLnk fun l =>
    { l with receiver := r
             gapTimer := match r with
               | .hunting => none
               | .collecting _ => some Config.gapTimeout }

/-- The gap timer expires: a frame being collected is discarded (R196). -/
def State.gapExpired (s : State) : State := if s.lnk.gapTimer.isSome then s.receive .hunting else s

def execInterByteGap (s : State) : Host.Outcome State Fault Refusal := event State.gapExpired s

/-- The transmitter has sent its frame and is free (R199). -/
def State.frameSent (s : State) : State := s.modLnk fun l => { l with transmitter := none }

def execFrameSent (s : State) : Host.Outcome State Fault Refusal := event State.frameSent s

end Sys2Proof.Machine
end

