-- ==== Sys2Proof/Machine/OrderRequests.lean ====
section
/-! DEFINITION. The requests of the order manager (R3 to R5, R12 to R18). -/

namespace Sys2Proof.Machine

/-! ### ORDER_OPEN (R3) -/

def newOrder (f : OrderOpenReq) : Order :=
  { id := f.order, state := .draft, account := f.account, cls := f.cls, preference := f.preference, stock := f.stock
    bracket := f.bracket, template := f.template, lecturer := f.lecturer, bound := none, arrival := none, items := []
    nextItem := 1 }

def answerOrderOpen (f : OrderOpenReq) (s : State) : Answer :=
  if ¬ orderOpenInRange f then refuse s .badField
  else if (s.account? f.account).isNone then refuse s .notFound
  else if (s.order? f.order).isSome then refuse s .busy
  else if Config.maxOrders ≤ s.ord.orders.length then refuse s .full
  else taken (s.modOrd fun t => { t with orders := t.orders ++ [newOrder f] })

def execOrderOpen (tag : Byte) (p : Payload OrderOpenReq) (s : State) : Host.Outcome State Fault Refusal :=
  request .orderOpen tag p answerOrderOpen s

/-! ### ITEM_ADD (R4) -/

/-- A subject offset as ITEM_ADD stores it (R4). -/
def clampOffset (z : Int) : Int := if z < -48 then -48 else if 48 < z then 48 else z

def newItem (f : ItemAddReq) (number : Nat) : Item :=
  { number := number, offset := clampOffset f.offset, filter := f.filter, copies := f.copies
    callNumber := f.callNumber, title := presentText f.title, note := presentText f.note, state := .pending
    framesDone := 0 }

def answerItemAdd (f : ItemAddReq) (s : State) : Answer :=
  match s.order? f.order with
  | none => refuse s .notFound
  | some o =>
    if o.state ≠ .draft then refuse s .state
    else if ¬ itemAddInRange f then refuse s .badField
    else if Config.maxItemsPerOrder ≤ o.items.length ∨ Config.maxItems ≤ s.ord.itemsUsed then refuse s .full
    else
      let n := o.items.length + 1
      taken (s.modOrder f.order fun o => { o with items := o.items ++ [newItem f n] })
        (.itemAdded n (decide (clampOffset f.offset ≠ f.offset)))

def execItemAdd (tag : Byte) (p : Payload ItemAddReq) (s : State) : Host.Outcome State Fault Refusal :=
  request .itemAdd tag p answerItemAdd s

/-! ### ORDER_SUBMIT (R5) -/

/-- The new number of an arrival number: its place among those given (R5). -/
def renumbered (os : List Order) (n : Nat) : Nat :=
  (os.filter fun o => match o.arrival with
    | some m => decide (m ≤ n)
    | none => false).length

/-- Renumbering of the arrival numbers, 1 upward in the order of the old ones (R5). -/
def Ord.renumber (t : Ord) : Ord :=
  { orders := t.orders.map fun o => { o with arrival := o.arrival.map (renumbered t.orders) }
    arrival := (t.orders.filter fun o => o.arrival.isSome).length + 1 }

def answerOrderSubmit (f : OrderReq) (s : State) : Answer :=
  match s.order? f.order with
  | none => refuse s .notFound
  | some o =>
    if o.state ≠ .draft then refuse s .state
    else if o.items = [] then refuse s .empty
    else
      let s := if s.ord.arrival = Config.maxArrival then s.modOrd Ord.renumber else s
      let n := s.ord.arrival
      let s := s.modOrder f.order fun o => { o with arrival := some n, nextItem := 1, state := .waiting }
      taken (s.modOrd fun t => { t with arrival := t.arrival + 1 }).dispatch (.arrival n)

def execOrderSubmit (tag : Byte) (p : Payload OrderReq) (s : State) : Host.Outcome State Fault Refusal :=
  request .orderSubmit tag p answerOrderSubmit s

/-! ### HOLD (R12, R45) -/

def answerHold (f : OrderReq) (s : State) : Answer :=
  match s.order? f.order with
  | none => refuse s .notFound
  | some o => match o.state with
    | .draft | .exposed | .cancelled => refuse s .state
    | .waiting | .held _ => taken (s.holdOrder f.order .host)
    | .active =>
      let s := s.holdOrder f.order .host
      match o.bound with
      | some st => taken (s.leave st)
      | none => taken s

def execHold (tag : Byte) (p : Payload OrderReq) (s : State) : Host.Outcome State Fault Refusal :=
  request .hold tag p answerHold s

/-! ### RELEASE (R13) -/

def answerRelease (f : OrderReq) (s : State) : Answer :=
  match s.order? f.order with
  | none => refuse s .notFound
  | some o =>
    if o.state.isHeld then taken (s.modOrder f.order fun o => { o with state := .waiting }).dispatch
    else refuse s .state

def execRelease (tag : Byte) (p : Payload OrderReq) (s : State) : Host.Outcome State Fault Refusal :=
  request .release tag p answerRelease s

/-! ### ORDER_PRIORITY (R14) -/

def answerOrderPriority (f : OrderPriorityReq) (s : State) : Answer :=
  if 3 < f.cls then refuse s .badField
  else match s.order? f.order with
    | none => refuse s .notFound
    | some o =>
      if o.ended then refuse s .state else taken (s.modOrder f.order fun o => { o with cls := f.cls })

def execOrderPriority (tag : Byte) (p : Payload OrderPriorityReq) (s : State) : Host.Outcome State Fault Refusal :=
  request .orderPriority tag p answerOrderPriority s

/-! ### ORDER_CANCEL (R15) -/

/-- The items of a cancelled order: PENDING ones dropped, one IN_PROGRESS becomes SKIPPED (R15). -/
def cancelledItems (l : List Item) : List Item :=
  (l.filter fun i => i.state != .pending).map fun i =>
    if i.state = .inProgress then { i with state := .skipped } else i

/-- The station that keeps the order in HELD goes to READY (R15). -/
def State.releaseKeeper (id : Nat) (st : Station) (s : State) : State :=
  match (s.seq st).mode with
  | .held _ => if (s.seq st).current = some id then (s.clearCurrent st).becomeReady st else s
  | _ => s

def answerOrderCancel (f : OrderReq) (s : State) : Answer :=
  match s.order? f.order with
  | none => refuse s .notFound
  | some o => match o.state with
    | .active => refuse s .busy
    | .exposed | .cancelled => refuse s .state
    | .draft | .waiting | .held _ =>
      let s := (s.modOrder f.order fun o =>
        { o with state := .cancelled, items := cancelledItems o.items }).freeOrder f.order
      taken (s |> State.releaseKeeper f.order .a |> State.releaseKeeper f.order .b |> State.releaseKeeper f.order .d)

def execOrderCancel (tag : Byte) (p : Payload OrderReq) (s : State) : Host.Outcome State Fault Refusal :=
  request .orderCancel tag p answerOrderCancel s

/-! ### ORDER_READ and ITEM_READ (R17, R18) -/

def answerOrderRead (f : OrderReq) (s : State) : Answer :=
  match s.order? f.order with
  | none => refuse s .notFound
  | some o => taken s (.order o (s.ord.position? f.order))

def execOrderRead (tag : Byte) (p : Payload OrderReq) (s : State) : Host.Outcome State Fault Refusal :=
  request .orderRead tag p answerOrderRead s

def answerItemRead (f : ItemReq) (s : State) : Answer :=
  match (s.order? f.order).bind (Order.item? · f.item) with
  | none => refuse s .notFound
  | some i => taken s (.item i)

def execItemRead (tag : Byte) (p : Payload ItemReq) (s : State) : Host.Outcome State Fault Refusal :=
  request .itemRead tag p answerItemRead s

end Sys2Proof.Machine
end

