-- ==== Sys2Proof/Machine/PrinterCommands.lean ====
section
/-! DEFINITION. The requests of the printer link and the events of its line and timers (R170, R172, R177 to R182). -/

namespace Sys2Proof.Machine

/-! ### PRINTER_SET (R172) -/

/-- What PRINTER_SET does to the link, W and the enable setting replaced (R172). -/
def State.setPrinter (f : PrinterSetReq) (s : State) : State :=
  let t := s.modPrn fun p => { p with window := f.window, enabled := f.enable }
  match s.prn.state, f.enable with
  | .off, true => ((t.modPrn fun p => { p with paused := false, roomReport := false }).setLink .idle).attempt
  | .off, false => t
  | _, true => t.attempt
  | _, false => (t.modPrn fun p => { p with printerTimer := none, statusTimer := none, receiver := .hunting }).setLink .off

def answerPrinterSet (f : PrinterSetReq) (s : State) : Answer :=
  if ¬ within 1 8 f.window then refuse s .badField
  else if f.enable = false ∧ s.prn.state = .sending then refuse s .busy
  else
    let t := s.setPrinter f
    taken t (.linkState t.prn.state)

def execPrinterSet (tag : Byte) (p : Payload PrinterSetReq) (s : State) : Host.Outcome State Fault Refusal :=
  request .printerSet tag p answerPrinterSet s

/-! ### PRINTER_STATUS (R182) -/

def answerPrinterStatus (f : PrinterStatusReq) (s : State) : Answer :=
  let asks := f.ask && s.prn.state == .held
  let x := s.prn
  taken (if asks then s.sendAsk else s)
    (.printer x.state x.enabled x.window x.nextSeq x.paused x.inFlight asks)

def execPrinterStatus (tag : Byte) (p : Payload PrinterStatusReq) (s : State) : Host.Outcome State Fault Refusal :=
  request .printerStatus tag p answerPrinterStatus s

/-! ### The printer line (R170, R177 to R179, R181) -/

/-- The character of a fault code (R169). -/
def codeChar : PrinterCode → Byte
  | .noStock => 0x4E
  | .jam => 0x4A
  | .head => 0x48

/-- The characters of a D, F or Y as the printer sends it, each with its parity right (R169). -/
def PrinterEvent.chars (e : PrinterEvent) : List PrinterChar :=
  (match e with
   | .done seq => printerFrame seq 0x44 []
   | .fault seq code named => printerFrame seq 0x46 [codeChar code, sequenceChar named]
   | .ready seq => printerFrame seq 0x59 []).map fun b => { char := b, parityError := false }

/-- What a good frame of the printer does; the sequence characters of F and Y are not used (R169, R177 to R179). -/
def State.act (e : PrinterEvent) (s : State) : State :=
  match e with
  | .done seq => s.printerDone seq
  | .fault _ code named => s.printerFault code named
  | .ready _ => s.printerReady

/-- What the end of a frame does: a bad one is captured with the date and no job, a good one acts (R170), and a free
transmitter chooses (R199). -/
def State.judged (s : State) (got : PrinterGot) : State :=
  match got with
  | .nothing => s
  | .bad => (s.capture .prn (bareCapture .badFrame)).transmit
  | .good e => (s.act e).transmit

/-- Characters arrive on the printer line, and each frame they end is judged, in OFF none (R170). So a frame whose STX
finds the receiver collecting ends that partial frame as a bad one first. -/
def State.hear (cs : List PrinterChar) (s : State) : State :=
  if s.prn.state = .off then s
  else
    let (r, gots) := s.prn.receiver.takeAll cs
    gots.foldl State.judged (s.modPrn fun p => { p with receiver := r })

def execPrinterDone (seq : Fin 16) (s : State) : Host.Outcome State Fault Refusal :=
  event (State.hear (PrinterEvent.done seq.val).chars) s

def execPrinterFault (seq : Fin 16) (code : PrinterCode) (named : Fin 16) (s : State) :
    Host.Outcome State Fault Refusal :=
  event (State.hear (PrinterEvent.fault seq.val code named.val).chars) s

def execPrinterReady (seq : Fin 16) (s : State) : Host.Outcome State Fault Refusal :=
  event (State.hear (PrinterEvent.ready seq.val).chars) s

/-- Characters of the printer line (R170). Each bad frame they end is discarded and captured; a good one they complete acts as
its own command does. -/
def execBadFrame (chars : List PrinterChar) (s : State) : Host.Outcome State Fault Refusal :=
  event (State.hear chars) s

/-! ### Its timers (R180, R181) -/

def execPrinterTimerExpiry (s : State) : Host.Outcome State Fault Refusal := event State.printerTimedOut s

def execStatusWaitExpiry (s : State) : Host.Outcome State Fault Refusal := event State.statusWaited s

end Sys2Proof.Machine
end

