-- ==== Sys2Proof/Machine/Resets.lean ====
section
/-! DEFINITION. The three resets and the start-up notices (R19, R50, R91, R98, R115, R133, R141, R144, R168, R183, R193,
R194, R203, R204). -/

namespace Sys2Proof.Machine

/-! ### The blocks at a warm or stand reset -/

/-- An order after a warm or stand reset (R19). -/
def Order.afterReset (o : Order) : Order := if o.state = .active then { o with state := .held .reset } else o

/-- A roll after a warm or stand reset (R115). -/
def Roll.afterReset (r : Roll) : Roll :=
  match r.state with
  | .loading => { r with state := .interrupted .loading }
  | .opened => { r with state := .interrupted .opened }
  | .rewinding => { r with state := .interrupted .rewinding }
  | .full | .out | .interrupted _ => r

/-- The state a station comes up in, from the roll in its back (R50). -/
def modeAfterReset : Option Roll → Mode
  | none => .unloaded
  | some r => match r.state with
    | .full => .awaitUnload
    | .loading | .opened | .rewinding | .out | .interrupted _ => .interrupted

/-- A sequencer after a warm or stand reset (R50). -/
def Sequencer.afterReset (q : Sequencer) (roll : Option Roll) : Sequencer :=
  { coldSequencer with settings := q.settings, mode := modeAfterReset roll }

/-- Every block behind LNK but the label path's sending, after a warm or stand reset, with the ready input and the doors as
they stand. -/
def State.keptReset (doors : PerStation Door) (readyInput : Bool) (s : State) : State :=
  { s with
    ord := { s.ord with orders := s.ord.orders.map Order.afterReset }
    seqs := { a := s.seqs.a.afterReset (s.rollAt .a), b := s.seqs.b.afterReset (s.rollAt .b)
              d := s.seqs.d.afterReset (s.rollAt .d) }
    drives := { a := stillDrive doors.a, b := stillDrive doors.b, d := stillDrive doors.d }
    gen := resetGen Config.maxHeat readyInput
    rol := { s.rol with
             rolls := s.rol.rolls.map Roll.afterReset
             frames := s.rol.frames.map s.lbl.frameAfterReset
             reserved := 0 }
    acc := { s.acc with accounts := s.acc.accounts.map fun a => { a with reserved := 0 } }
    jnl := { s.jnl with reserved := 0 }
    lbl := s.lbl.afterReset
    prn := resetPrn s.prn.enabled s.prn.window }

/-! ### Start-up notices (R204) -/

/-- The ORDER_HELD notices of the orders that were ACTIVE, in the order of their bound stations (R19). -/
def State.resetHolds (s : State) : List Notice :=
  allStations.flatMap fun st =>
    (s.ord.orders.filter fun o => o.state == .active && o.bound == some st).map fun o => .orderHeld o.id .reset

/-- STATION_STATE of a station as it stands, with no current order (R50). -/
def State.stationNotice (s : State) (st : Station) : Notice := .stationState st (s.seq st).mode none

/-- JOURNAL_HIGH when the journal holds 192 entries or more (R141). -/
def Jnl.startNotice (j : Jnl) : List Notice :=
  if Config.journalHighMark ≤ j.entries.length then [j.highNotice] else []

/-- Notices of several blocks in one order: each block's keep their own, and at each place the free value `c` picks the
block whose next notice stands there (log entry 7). `fuel` bounds the number of notices. -/
def interleave : Nat → Nat → List (List Notice) → List Notice
  | 0, _, _ => []
  | fuel + 1, c, lists =>
    let live := lists.filter fun l => l != []
    let k := c % live.length
    match live[k]? with
    | some (n :: rest) => n :: interleave fuel (c / live.length) (live.set k rest)
    | some [] | none => []

/-- The blocks' start-up notices raised behind what the queue holds (R200, R204). -/
def State.raiseStart (lists : List (List Notice)) (s : State) : State :=
  (s.raiseAll (interleave lists.flatten.length (Config.freeStartOrder s.free) lists)).useFree

/-! ### Warm and stand (R203) -/

/-- The label path after the START notice: LBL examines its waiting head, and a link that is IDLE makes its sending
attempt; the notices of it apart from the queue (R168, R183). -/
def State.labelStart (s : State) : State × List Notice :=
  let t := (s.modLnk fun l => { l with notices := [] }).examine
  (t.modLnk fun l => { l with notices := s.lnk.notices }, t.lnk.notices)

/-- A warm or stand reset, from the state before it and LNK after it with START at the head of its queue. JOURNAL_HIGH carries
the reservation count after the label path's sending attempt (R183), wherever among the start-up notices it stands: R204
leaves the order of the blocks open, and this is the model's choice (log entry 7). -/
def State.keepReset (lnk : Lnk) (doors : PerStation Door) (readyInput : Bool) (s : State) : State :=
  let held := s.resetHolds
  let (t, label) := State.labelStart { s.keptReset doors readyInput with lnk := lnk }
  t.raiseStart [held, [t.stationNotice .a], [t.stationNotice .b], [t.stationNotice .d],
    [.generatorState t.gen.mode t.gen.heat], t.jnl.startNotice, label]

/-- The doors as the drives hold them. -/
def State.doors (s : State) : PerStation Door :=
  { a := (s.drive .a).door, b := (s.drive .b).door, d := (s.drive .d).door }

/-- LNK at a stand reset: START at the head of the queue, before the notices queued; of 32 the newest is dropped
(R203). -/
def Lnk.standReset (l : Lnk) : Lnk :=
  let kept := l.notices.take (Config.maxNotices - 1)
  { l with notices := .start .stand kept.length :: kept
           noticeOverflow := l.noticeOverflow || decide (kept.length < l.notices.length)
           lastReset := .stand }

/-- A stand reset (R203). -/
def State.standReset (s : State) : State := s.keepReset s.lnk.standReset s.doors s.gen.readyInput

/-- The line rate the straps select (R194). -/
def strapRate : Bool → Bool → LineRate
  | false, false => .r9600
  | false, true => .r19200
  | true, false => .r38400
  | true, true => .r57600

/-- LNK after a cold or warm reset, with START alone in the queue (R203). -/
def freshLnk (kind : ResetKind) (rate : LineRate) : Lnk :=
  { receiver := .hunting, gapTimer := none, replies := [], notices := [.start kind 0]
    noticeOverflow := kind == .warm, requestOverflow := false, transmitter := none, rate := rate, lastReset := kind }

/-- A cold reset (R203): every block at its cold value; START and the start-up notices. -/
def State.coldReset (pins : ResetPins) (s : State) : State :=
  let t := { coldBlocks (freshLnk .cold (strapRate pins.strap1 pins.strap2))
              { a := pins.doorA, b := pins.doorB, d := pins.doorD } pins.readyInput with
              outputs := s.outputs, free := s.free, pending := s.pending }
  t.raiseStart [[t.stationNotice .a], [t.stationNotice .b], [t.stationNotice .d],
    [.generatorState t.gen.mode t.gen.heat]]

/-- A warm reset (R203). -/
def State.warmReset (pins : ResetPins) (s : State) : State :=
  s.keepReset (freshLnk .warm (strapRate pins.strap1 pins.strap2))
    { a := pins.doorA, b := pins.doorB, d := pins.doorD } pins.readyInput

/-- The main supply returns or the reset line is released: COLD with retention lost, else WARM (R203). -/
def State.resetBy (pins : ResetPins) (s : State) : State :=
  if pins.retentionHeld then s.warmReset pins else s.coldReset pins

def execReset (pins : ResetPins) (s : State) : Host.Outcome State Fault Refusal := event (State.resetBy pins) s

/-- STAND_RESET (R203): its reply joins the reply list, which the reset leaves as it stands. -/
def answerStandReset (_ : Unit) (s : State) : Answer := taken s.standReset

def execStandReset (tag : Byte) (p : Payload Unit) (s : State) : Host.Outcome State Fault Refusal :=
  request .standReset tag p answerStandReset s

end Sys2Proof.Machine
end

