-- ==== Sys2Proof/Machine/StationRequests.lean ====
section
/-! DEFINITION. The requests of the station sequencers and PLAN_QUERY (R21, R23, R31, R32, R42, R43, R67 to R71). -/

namespace Sys2Proof.Machine

/-- A request that carries a station number: outside 0..2 it is refused BAD_FIELD (spec/02, introduction). -/
def atStation (n : Nat) (s : State) (owner : Station → State → Answer) : Answer :=
  match stationOf? n with
  | none => refuse s .badField
  | some st => owner st s

/-! ### STATION_SET (R21) -/

/-- The back type agrees with the roll in the back of a READY station (R21 condition 3). -/
def State.backAgrees (s : State) (st : Station) (b : BackType) : Bool :=
  match s.rollAt st with
  | some r => r.back == b
  | none => true

def answerStationSet (f : StationSetReq) (s : State) : Answer :=
  atStation f.station s fun st s =>
    if ¬ settingsInRange f.settings then refuse s .badField
    else if (s.seq st).mode ≠ .unloaded ∧ (s.seq st).mode ≠ .ready then refuse s .busy
    else if (s.seq st).mode = .ready ∧ s.backAgrees st f.settings.back = false then refuse s .busy
    else taken (s.modSeq st fun q => { q with settings := f.settings })

def execStationSet (tag : Byte) (p : Payload StationSetReq) (s : State) : Host.Outcome State Fault Refusal :=
  request .stationSet tag p answerStationSet s

/-! ### STATION_READ (R23) -/

def answerStationRead (f : StationReq) (s : State) : Answer :=
  atStation f.station s fun st s =>
    let q := s.seq st
    taken s (.station q.settings q.mode q.current q.footPending q.context (q.faultMemory.map FaultMemory.before))

def execStationRead (tag : Byte) (p : Payload StationReq) (s : State) : Host.Outcome State Fault Refusal :=
  request .stationRead tag p answerStationRead s

/-! ### PLACED (R31) -/

def answerPlaced (f : StationReq) (s : State) : Answer :=
  atStation f.station s fun st s =>
    if (s.seq st).mode = .announced then taken (s.place st) else refuse s .state

def execPlaced (tag : Byte) (p : Payload StationReq) (s : State) : Host.Outcome State Fault Refusal :=
  request .placed tag p answerPlaced s

/-! ### INPUT_TAKE (R32) -/

def answerInputTake (f : StationReq) (s : State) : Answer :=
  atStation f.station s fun st s =>
    taken (s.modSeq st fun q => { q with footPending := false }) (.footPending (s.seq st).footPending)

def execInputTake (tag : Byte) (p : Payload StationReq) (s : State) : Host.Outcome State Fault Refusal :=
  request .inputTake tag p answerInputTake s

/-! ### SKIP_ITEM (R42) -/

def answerSkipItem (f : StationReq) (s : State) : Answer :=
  atStation f.station s fun st s =>
    match (s.seq st).mode, (s.seq st).context with
    | .announced, some c =>
      let s := (s.endItem st c.order c.item .skipped).settle st
      if s.itemsLeft c.order then taken (s.announce State.dispatch st)
      else taken ((s.orderDone st c.order).becomeReady st)
    | .announced, none => taken s
    | _, _ => refuse s .state

def execSkipItem (tag : Byte) (p : Payload StationReq) (s : State) : Host.Outcome State Fault Refusal :=
  request .skipItem tag p answerSkipItem s

/-! ### ABORT (R11, R43, R44) -/

/-- ABORT is taken: the station works on an ACTIVE order in a state that R43 names. -/
def State.abortable (s : State) (st : Station) : Bool :=
  match (s.seq st).mode with
  | .separating | .announced | .exposing | .advancing | .held _ =>
    (match (s.seq st).current with
     | some id => s.orderActive id
     | none => false)
  | .unloaded | .loading | .ready | .ending | .awaitUnload | .interrupted | .fault => false

def answerAbort (f : StationReq) (s : State) : Answer :=
  atStation f.station s fun st s =>
    match s.abortable st, (s.seq st).current with
    | true, some id => taken ((s.modOrder id fun o => { o with state := .waiting }).leave st).dispatch
    | _, _ => refuse s .state

def execAbort (tag : Byte) (p : Payload StationReq) (s : State) : Host.Outcome State Fault Refusal :=
  request .abort tag p answerAbort s

/-! ### PLAN_QUERY (R67 to R71) -/

def directInputs (f : PlanDirectReq) : PlanInputs :=
  { calibration := f.calibration, subject := f.subject, speed := f.speed, filter := f.filter
    magnification := f.magnification, offset := f.offset, rounding := f.rounding }

def answerPlanQueryDirect (f : PlanDirectReq) (s : State) : Answer :=
  if ¬ planDirectInRange f then refuse s .badField
  else
    let plan := shotPlan (directInputs f)
    taken s (.planned (bellowsCorrection f.magnification) plan (surplus plan.required)
      ((surplus plan.required).map (· % 4)))

def execPlanQueryDirect (tag : Byte) (p : Payload PlanDirectReq) (s : State) : Host.Outcome State Fault Refusal :=
  request .planQuery tag p answerPlanQueryDirect s

def answerPlanQueryStation (f : PlanStationReq) (s : State) : Answer :=
  atStation f.station s fun st s =>
    if ¬ planStationInRange f then refuse s .badField
    else match s.speed? f.stock with
      | none => refuse s .notFound
      | some v =>
        let x := (s.seq st).settings
        taken s (.plannedAt (bellowsCorrection x.magnification) (shotPlan (stationInputs x v f.filter f.subject f.offset)))

def execPlanQueryStation (tag : Byte) (p : Payload PlanStationReq) (s : State) : Host.Outcome State Fault Refusal :=
  request .planQuery tag p answerPlanQueryStation s

/-- The entries of an item as the ITEM form reports them, from position `k` on (R70). -/
def plannedEntries (x : Settings) (v : Int) (i : Item) : Nat → List Entry → List PlannedEntry
  | _, [] => []
  | k, e :: es =>
    { position := k, entry := e, exposed := decide (k ≤ i.framesDone)
      plan := shotPlan (stationInputs x v i.filter i.offset e.offset) } :: plannedEntries x v i (k + 1) es

def answerPlanQueryItem (f : PlanItemReq) (s : State) : Answer :=
  atStation f.station s fun st s =>
    match s.order? f.order with
    | none => refuse s .notFound
    | some o => match o.item? f.item with
      | none => refuse s .notFound
      | some i => match s.speed? o.stock with
        | none => refuse s .notFound
        | some v =>
          let es := plannedEntries (s.seq st).settings v i 1 (plannedFrames o.bracket i.copies)
          taken s (.plannedItem es ((es.filter fun e => !e.exposed).map fun e => e.plan.energy).sum)

def execPlanQueryItem (tag : Byte) (p : Payload PlanItemReq) (s : State) : Host.Outcome State Fault Refusal :=
  request .planQuery tag p answerPlanQueryItem s

end Sys2Proof.Machine
end

