-- ==== Sys2Proof/Machine/RollRequests.lean ====
section
/-! DEFINITION. The requests of the roll manager (R93, R97, R109, R111, R112, R114, R116, R117). -/

namespace Sys2Proof.Machine

/-! ### STOCK_SET and STOCK_READ (R93) -/

/-- A present stock entry put into the table, which stays in code order and loses an earlier entry of the code. -/
def putStock (k : Stock) : List Stock → List Stock
  | [] => [k]
  | x :: xs => if k.code < x.code then k :: x :: xs else if k.code = x.code then k :: xs else x :: putStock k xs

/-- Rolls present that use a stock code (R93). -/
def State.rollsOfStock (s : State) (code : Nat) : Nat := (s.rol.rolls.filter fun r => r.stock == code).length

def answerStockSet (f : StockSetReq) (s : State) : Answer :=
  if ¬ stockSetInRange f then refuse s .badField
  else if 0 < s.rollsOfStock f.code then refuse s .busy
  else taken (s.modRol fun t =>
    { t with stocks := putStock { code := f.code, speed := f.speed, name := f.name } t.stocks })

def execStockSet (tag : Byte) (p : Payload StockSetReq) (s : State) : Host.Outcome State Fault Refusal :=
  request .stockSet tag p answerStockSet s

def answerStockSetRemove (f : StockReq) (s : State) : Answer :=
  if ¬ within 1 15 f.code then refuse s .badField
  else if (s.speed? f.code).isNone then refuse s .notFound
  else if 0 < s.rollsOfStock f.code then refuse s .busy
  else taken (s.modRol fun t => { t with stocks := t.stocks.filter fun k => !(k.code == f.code) })

def execStockSetRemove (tag : Byte) (p : Payload StockReq) (s : State) : Host.Outcome State Fault Refusal :=
  request .stockSet tag p answerStockSetRemove s

def answerStockRead (_ : Unit) (s : State) : Answer :=
  taken s (.stocks (s.rol.stocks.map fun k => (k, s.rollsOfStock k.code)))

def execStockRead (tag : Byte) (p : Payload Unit) (s : State) : Host.Outcome State Fault Refusal :=
  request .stockRead tag p answerStockRead s

/-! ### LOAD (R96, R97, R102) -/

/-- The roll record that LOAD creates (R94, R97). -/
def newRoll (number : Nat) (st : Station) (stock : Nat) (back : BackType) (date : Option Nat) : Roll :=
  { number := number, station := some st, stock := stock, back := back, capacity := backCapacity back, next := 1
    state := .loading, short := false, openedInLight := false, uncertainFrame := false, loadDate := date }

/-- The number LOAD gives (R96). -/
def Rol.nextNumber (t : Rol) : Nat := freeRollNumber t.rolls.length t.lastRoll (t.rolls.map Roll.number)

def answerLoad (f : LoadReq) (s : State) : Answer :=
  atStation f.station s fun st s =>
    if ¬ within 1 15 f.stock then refuse s .badField
    else if (s.speed? f.stock).isNone then refuse s .notFound
    else if (s.seq st).mode ≠ .unloaded then refuse s .state
    else if (s.drive st).door ≠ .closed then refuse s .busy
    else if Config.maxRolls ≤ s.rol.rolls.length then refuse s .full
    else
      let n := s.rol.nextNumber
      let back := (s.seq st).settings.back
      let s := s.modRol fun t =>
        { t with rolls := t.rolls ++ [newRoll n st f.stock back s.stamp], lastRoll := n }
      let s := (s.modDrive st fun d => { d with endSeen := false, leader := 0 }).startMove st .leader
      taken (s.setMode st .loading) (.loaded n (backCapacity back))

def execLoad (tag : Byte) (p : Payload LoadReq) (s : State) : Host.Outcome State Fault Refusal :=
  request .load tag p answerLoad s

/-! ### UNLOAD_EARLY (R109) -/

def answerUnloadEarly (f : StationReq) (s : State) : Answer :=
  atStation f.station s fun st s =>
    if (s.seq st).mode ≠ .ready then refuse s .state
    else match s.rollAt st with
      | some r => taken ((s.modRoll r.number Roll.truncate).takeRollEnd st)
      | none => taken s

def execUnloadEarly (tag : Byte) (p : Payload StationReq) (s : State) : Host.Outcome State Fault Refusal :=
  request .unloadEarly tag p answerUnloadEarly s

/-! ### FRAME_READ (R111) -/

def answerFrameRead (f : FrameReadReq) (s : State) : Answer :=
  if ¬ frameReadInRange f then refuse s .badField
  else match s.roll? f.roll with
    | none => refuse s .notFound
    | some r =>
      taken s (.frames r ((s.framesOf f.roll).filter fun x =>
        decide (f.first ≤ x.number ∧ x.number < f.first + f.count)))

def execFrameRead (tag : Byte) (p : Payload FrameReadReq) (s : State) : Host.Outcome State Fault Refusal :=
  request .frameRead tag p answerFrameRead s

/-! ### CULL (R112) -/

/-- The verdict an action gives, none for LEAVE (R112). -/
def cullVerdict (f : CullReq) (frame : Nat) : Option Verdict :=
  if frame < f.first then none
  else match f.actions[frame - f.first]? with
    | some .none => some .none
    | some .keep => some .keep
    | some .discard => some .discard
    | some .leave | none => none

/-- A frame as a CULL leaves it (R112). -/
def cullFrame (f : CullReq) (x : Frame) : Frame :=
  if x.roll = f.roll then
    match cullVerdict f x.number with
    | some v => { x with verdict := v }
    | none => x
  else x

/-- The frames a CULL names by an action other than LEAVE (R112). -/
def State.culled (f : CullReq) (s : State) : List Frame :=
  (s.framesOf f.roll).filter fun x => (cullVerdict f x.number).isSome

def answerCull (f : CullReq) (s : State) : Answer :=
  if ¬ (within 1 250 f.first ∧ within 1 32 f.actions.length) then refuse s .badField
  else match s.roll? f.roll with
    | none => refuse s .notFound
    | some r =>
      if r.state ≠ .out then refuse s .state
      else if r.next ≤ f.first + f.actions.length - 1 then refuse s .badField
      else if (s.culled f).any (fun x => x.kind == .separator || x.kind == .recovery) then refuse s .badField
      else if (s.culled f).any (fun x => x.label != .none || s.lbl.hasJobFor x.roll x.number) then refuse s .labelled
      else
        let changed := ((s.culled f).filter fun x => (cullFrame f x).verdict != x.verdict).length
        let before := s.labelled f.roll
        taken ((s.modRol fun t => { t with frames := t.frames.map (cullFrame f) }).testLabelled f.roll before)
          (.changed changed)

def execCull (tag : Byte) (p : Payload CullReq) (s : State) : Host.Outcome State Fault Refusal :=
  request .cull tag p answerCull s

/-! ### CLOSE_ROLL (R16, R114) -/

/-- A list with each member kept once, at its first place. -/
def distinct : List Nat → List Nat
  | [] => []
  | a :: l => a :: (distinct l).filter fun b => b != a

/-- The order ids that a roll's frame records name, each once (R114). -/
def State.ordersOnRoll (s : State) (n : Nat) : List Nat :=
  distinct ((s.framesOf n).filterMap fun f => f.exposure.map Exposure.order)

/-- The roll's frame records and the roll record are freed (R114). -/
def State.freeRoll (n : Nat) (s : State) : State :=
  s.modRol fun t =>
    { t with frames := t.frames.filter fun f => !(f.roll == n), rolls := t.rolls.filter fun r => !(r.number == n) }

def answerCloseRoll (f : CloseRollReq) (s : State) : Answer :=
  match s.roll? f.roll with
  | none => refuse s .notFound
  | some r =>
    if r.state ≠ .out then refuse s .state
    else if s.lbl.jobs.any (fun j => j.roll == f.roll) then refuse s .busy
    else match if f.force then none else (s.framesOf f.roll).find? fun x => !x.settled with
      | some x => refuse s .state (.firstFrame x.number)
      | none =>
        let ids := s.ordersOnRoll f.roll
        let freed := (s.framesOf f.roll).length
        let s := s.freeRoll f.roll
        let t := ids.foldl (fun t id => t.freeOrder id) s
        taken t (.closed freed (s.ord.orders.length - t.ord.orders.length))

def execCloseRoll (tag : Byte) (p : Payload CloseRollReq) (s : State) : Host.Outcome State Fault Refusal :=
  request .closeRoll tag p answerCloseRoll s

/-! ### CONFIRM_ROLL (R116) -/

def answerConfirmRoll (f : StationReq) (s : State) : Answer :=
  atStation f.station s fun st s =>
    if (s.seq st).mode ≠ .interrupted then refuse s .state
    else match s.rollAt st with
      | none => taken s
      | some r => match r.state with
        | .interrupted .opened =>
          if r.next ≤ r.capacity then
            if ¬ s.rol.hasRoom 1 then refuse s .full
            else
              let s := (s.modRoll r.number fun x => { x with state := .opened }).recordFrame r .recovery none
              taken ((s.startMove st .advance).filmEndIfSeen st)
          else taken ((s.modRoll r.number fun x => { x with state := .opened }).takeRollEnd st)
        | .interrupted .loading =>
          let s := (s.modRoll r.number fun x => { x with state := .loading }).modDrive st
            fun d => { d with leader := 0 }
          taken ((s.setMode st .loading).leaderOn st)
        | .interrupted .rewinding =>
          let s := s.modRoll r.number fun x => { x with state := .rewinding }
          taken ((s.setMode st .ending).modDrive st Drive.startRewind)
        | .loading | .opened | .rewinding | .full | .out => taken s

def execConfirmRoll (tag : Byte) (p : Payload StationReq) (s : State) : Host.Outcome State Fault Refusal :=
  request .confirmRoll tag p answerConfirmRoll s

/-! ### DECLARE_UNLOADED (R117) -/

def answerDeclareUnloaded (f : StationReq) (s : State) : Answer :=
  atStation f.station s fun st s =>
    if (s.seq st).mode ≠ .interrupted then refuse s .state
    else
      let s := s.modDrive st Drive.stop
      let s := match s.rollAt st with
        | some r => s.rollOut r.number st fun x => { x.truncate with uncertainFrame := true }
        | none => s
      taken (s.setMode st .unloaded)

def execDeclareUnloaded (tag : Byte) (p : Payload StationReq) (s : State) : Host.Outcome State Fault Refusal :=
  request .declareUnloaded tag p answerDeclareUnloaded s

end Sys2Proof.Machine
end

