-- ==== Sys2Proof/Machine/HostLine.lean ====
section
/-! DEFINITION. The characters of the host line: what the good frame they complete does, UNKNOWN_KIND and HOST_BAD_FRAME
(R196, R197). -/

namespace Sys2Proof.Machine

/-- What a host request does when its frame is completed, before the transmitter's choice (R197). An event of another line
is no request, and does nothing here. -/
def State.takeCommand (c : Instr) (s : State) : State :=
  match c with
  | .orderOpen tag p => takePayload .orderOpen tag p answerOrderOpen s
  | .itemAdd tag p => takePayload .itemAdd tag p answerItemAdd s
  | .orderSubmit tag p => takePayload .orderSubmit tag p answerOrderSubmit s
  | .hold tag p => takePayload .hold tag p answerHold s
  | .release tag p => takePayload .release tag p answerRelease s
  | .orderPriority tag p => takePayload .orderPriority tag p answerOrderPriority s
  | .orderCancel tag p => takePayload .orderCancel tag p answerOrderCancel s
  | .orderRead tag p => takePayload .orderRead tag p answerOrderRead s
  | .itemRead tag p => takePayload .itemRead tag p answerItemRead s
  | .stationSet tag p => takePayload .stationSet tag p answerStationSet s
  | .stationRead tag p => takePayload .stationRead tag p answerStationRead s
  | .placed tag p => takePayload .placed tag p answerPlaced s
  | .inputTake tag p => takePayload .inputTake tag p answerInputTake s
  | .skipItem tag p => takePayload .skipItem tag p answerSkipItem s
  | .abort tag p => takePayload .abort tag p answerAbort s
  | .planQueryDirect tag p => takePayload .planQuery tag p answerPlanQueryDirect s
  | .planQueryStation tag p => takePayload .planQuery tag p answerPlanQueryStation s
  | .planQueryItem tag p => takePayload .planQuery tag p answerPlanQueryItem s
  | .genRead tag p => takePayload .genRead tag p answerGenRead s
  | .genClear tag p => takePayload .genClear tag p answerGenClear s
  | .stockSet tag p => takePayload .stockSet tag p answerStockSet s
  | .stockSetRemove tag p => takePayload .stockSet tag p answerStockSetRemove s
  | .stockRead tag p => takePayload .stockRead tag p answerStockRead s
  | .load tag p => takePayload .load tag p answerLoad s
  | .unloadEarly tag p => takePayload .unloadEarly tag p answerUnloadEarly s
  | .frameRead tag p => takePayload .frameRead tag p answerFrameRead s
  | .cull tag p => takePayload .cull tag p answerCull s
  | .closeRoll tag p => takePayload .closeRoll tag p answerCloseRoll s
  | .confirmRoll tag p => takePayload .confirmRoll tag p answerConfirmRoll s
  | .declareUnloaded tag p => takePayload .declareUnloaded tag p answerDeclareUnloaded s
  | .tariffSet tag p => takePayload .tariffSet tag p answerTariffSet s
  | .tariffRead tag p => takePayload .tariffRead tag p answerTariffRead s
  | .accountSet tag p => takePayload .accountSet tag p answerAccountSet s
  | .accountClear tag p => takePayload .accountClear tag p answerAccountClear s
  | .accountRead tag p => takePayload .accountRead tag p answerAccountRead s
  | .adjust tag p => takePayload .adjust tag p answerAdjust s
  | .journalRead tag p => takePayload .journalRead tag p answerJournalRead s
  | .journalRelease tag p => takePayload .journalRelease tag p answerJournalRelease s
  | .clockSet tag p => takePayload .clockSet tag p answerClockSet s
  | .clockRead tag p => takePayload .clockRead tag p answerClockRead s
  | .labelRoll tag p => takePayload .labelRoll tag p answerLabelRoll s
  | .labelFrame tag p => takePayload .labelFrame tag p answerLabelFrame s
  | .labelCancel tag p => takePayload .labelCancel tag p answerLabelCancel s
  | .labelRead tag p => takePayload .labelRead tag p answerLabelRead s
  | .templateLoad tag p => takePayload .templateLoad tag p answerTemplateLoad s
  | .templateLock tag p => takePayload .templateLock tag p answerTemplateLock s
  | .templateUnlock tag p => takePayload .templateUnlock tag p answerTemplateUnlock s
  | .templateDrop tag p => takePayload .templateDrop tag p answerTemplateDrop s
  | .templateRead tag p => takePayload .templateRead tag p answerTemplateRead s
  | .printerSet tag p => takePayload .printerSet tag p answerPrinterSet s
  | .printerStatus tag p => takePayload .printerStatus tag p answerPrinterStatus s
  | .faultRead tag p => takePayload .faultRead tag p answerFaultRead s
  | .faultClear tag p => takePayload .faultClear tag p answerFaultClear s
  | .ident tag p => takePayload .ident tag p answerIdent s
  | .status tag p => takePayload .status tag p answerStatus s
  | .standReset tag p => takePayload .standReset tag p answerStandReset s
  | .unknownKind tag kind => takeRequest kind tag (fun t => refuse t .unknownKind) s
  | .hostBadFrame _ | .interByteGap | .frameSent | .reset _ | .footSwitchEdge _ _ | .doorOpened _ | .doorClosed _
  | .sprocketPulse _ | .advanceTimeout _ | .endOfFilmSensor _ | .rewindDone _ | .rewindTimerExpiry _
  | .readyInputRise | .readyInputFall | .flashSensorReport | .flashConfirmWindowExpiry | .chargeTimerExpiry
  | .idleDischarge | .cooling | .minuteTimerExpiry | .printerDone _ | .printerFault _ _ _ | .printerReady _
  | .badFrame _ | .printerTimerExpiry | .statusWaitExpiry | .stationSlotRequest _ | .printerSlotRequest => s

/-- The command of a good frame (R197, R202). -/
def commandOf (f : RequestFrame) : Instr := decodeRequest f.kind f.tag f.payload

/-- What a frame that a character ended does: a request is taken and a free transmitter chooses (R197, R199); a bad frame
and one with tag 0 are discarded without effect on any block (R196, R197). -/
def State.takeReceived (s : State) (got : Received) : State :=
  match got with
  | .good f => if f.tag = 0 then s else (s.takeCommand (commandOf f)).transmit
  | .nothing | .bad => s

/-- Characters arrive on the host line, one after another (R196). -/
def State.hearHost : List HostChar → State → State
  | [], s => s
  | c :: cs, s => State.hearHost cs ((s.receive (s.lnk.receiver.take c).1).takeReceived (s.lnk.receiver.take c).2)

/-- Characters of the host line: frames begun, bad frames and frames with tag 0, all without reply and without effect on any
block (R196, R197). A good frame with another tag that they complete is a request, and is taken as its own command is. -/
def execHostBadFrame (chars : List HostChar) (s : State) : Host.Outcome State Fault Refusal :=
  event (State.hearHost chars) s

/-- The kind bytes that name a request kind: 1 to 53 (R202). -/
def namesRequest (kind : Byte) : Bool := decide (1 ≤ kind.toNat ∧ kind.toNat ≤ 53)

/-- A good frame whose kind names no request is answered UNKNOWN_KIND (R197 step 2). The command carries no payload: with a
kind that names a request it is the good frame of that kind with an empty payload, which is the model's choice (log
entry 6). -/
def execUnknownKind (tag kind : Byte) (s : State) : Host.Outcome State Fault Refusal :=
  if namesRequest kind then event (State.takeCommand (decodeRequest kind tag [])) s
  else event (takeRequest kind tag fun t => refuse t .unknownKind) s

end Sys2Proof.Machine
end

