-- ==== Sys2Proof/Machine/StationEvents.lean ====
section
/-! DEFINITION. The events at the stations' lines and drive timers (R31, R32, R48, R98 to R101, R110). -/

namespace Sys2Proof.Machine

/-- A foot-switch edge: of the selected polarity with the switch enabled it is placement in ANNOUNCED and sets the pending
flag elsewhere; any other edge does nothing (R31, R32). -/
def State.footEdge (st : Station) (edge : Edge) (s : State) : State :=
  let x := (s.seq st).settings
  if x.footEnabled ∧ x.footEdge = edge then
    if (s.seq st).mode = .announced then s.place st else s.modSeq st fun q => { q with footPending := true }
  else s

def execFootSwitchEdge (st : Station) (edge : Edge) (s : State) : Host.Outcome State Fault Refusal :=
  event (State.footEdge st edge) s

def execDoorOpened (st : Station) (s : State) : Host.Outcome State Fault Refusal := event (State.doorOpen st) s

/-- The door closes: only the door state changes (R110). -/
def State.doorClose (st : Station) (s : State) : State := s.modDrive st fun d => { d with door := .closed }

def execDoorClosed (st : Station) (s : State) : Host.Outcome State Fault Refusal := event (State.doorClose st) s

/-- A sprocket pulse: counted in a leader frame, an advance or a recovery pull, whose eighth completes it (R98). -/
def State.pulse (st : Station) (s : State) : State :=
  if (s.drive st).pulling then
    let t := s.modDrive st fun d => { d with pulses := d.pulses + 1 }
    if 8 ≤ (t.drive st).pulses then
      match (s.drive st).move with
      | some m => (t.modDrive st Drive.stop).moveOver st m
      | none => t
    else t
  else s

def execSprocketPulse (st : Station) (s : State) : Host.Outcome State Fault Refusal := event (State.pulse st) s

/-- The advance timer expires: the move has failed (R99). -/
def State.advanceTimedOut (st : Station) (s : State) : State :=
  match (s.drive st).advanceTimer, (s.drive st).move with
  | some _, some m => (s.modDrive st Drive.stop).jam st m
  | _, _ => s

def execAdvanceTimeout (st : Station) (s : State) : Host.Outcome State Fault Refusal := event (State.advanceTimedOut st) s

/-- The end-of-film sensor reports (R100). -/
def State.endSensed (st : Station) (s : State) : State :=
  match (s.drive st).move with
  | some .rewind => s
  | none => s.modDrive st fun d => { d with endSeen := true }
  | some _ => s.filmEnd st

def execEndOfFilmSensor (st : Station) (s : State) : Host.Outcome State Fault Refusal := event (State.endSensed st) s

/-- The rewind-done input reports (R101). -/
def State.rewound (st : Station) (s : State) : State :=
  if (s.drive st).move = some .rewind then
    let s := s.modDrive st Drive.stop
    match s.rollAt st with
    | some r => (s.rollFull r st).setMode st .awaitUnload
    | none => s
  else s

def execRewindDone (st : Station) (s : State) : Host.Outcome State Fault Refusal := event (State.rewound st) s

/-- The capture of REWIND_TIMEOUT: the roll number (R101, R185). -/
def State.rewindCapture (st : Station) (s : State) : Capture :=
  { bareCapture (.station .rewindTimeout) with roll := (s.rollAt st).map Roll.number }

/-- The rewind timer expires (R101). -/
def State.rewindTimedOut (st : Station) (s : State) : State :=
  if (s.drive st).rewindTimer.isSome then
    let s := s.modDrive st Drive.stop
    (s.capture (stationUnit st) (s.rewindCapture st)).enterFault st .rewindTimeout false
  else s

def execRewindTimerExpiry (st : Station) (s : State) : Host.Outcome State Fault Refusal :=
  event (State.rewindTimedOut st) s

end Sys2Proof.Machine
end

