-- ==== Sys2Proof/Machine/Dispatch.lean ====
section
/-! DEFINITION. What each command does: one arm per command, each a call of its meaning. -/

namespace Sys2Proof.Machine

def exec (i : Instr) (s : State) : Host.Outcome State Fault Refusal :=
  match i with
  | .orderOpen tag p => Sys2Proof.Machine.execOrderOpen tag p s
  | .itemAdd tag p => Sys2Proof.Machine.execItemAdd tag p s
  | .orderSubmit tag p => Sys2Proof.Machine.execOrderSubmit tag p s
  | .hold tag p => Sys2Proof.Machine.execHold tag p s
  | .release tag p => Sys2Proof.Machine.execRelease tag p s
  | .orderPriority tag p => Sys2Proof.Machine.execOrderPriority tag p s
  | .orderCancel tag p => Sys2Proof.Machine.execOrderCancel tag p s
  | .orderRead tag p => Sys2Proof.Machine.execOrderRead tag p s
  | .itemRead tag p => Sys2Proof.Machine.execItemRead tag p s
  | .stationSet tag p => Sys2Proof.Machine.execStationSet tag p s
  | .stationRead tag p => Sys2Proof.Machine.execStationRead tag p s
  | .placed tag p => Sys2Proof.Machine.execPlaced tag p s
  | .inputTake tag p => Sys2Proof.Machine.execInputTake tag p s
  | .skipItem tag p => Sys2Proof.Machine.execSkipItem tag p s
  | .abort tag p => Sys2Proof.Machine.execAbort tag p s
  | .planQueryDirect tag p => Sys2Proof.Machine.execPlanQueryDirect tag p s
  | .planQueryStation tag p => Sys2Proof.Machine.execPlanQueryStation tag p s
  | .planQueryItem tag p => Sys2Proof.Machine.execPlanQueryItem tag p s
  | .genRead tag p => Sys2Proof.Machine.execGenRead tag p s
  | .genClear tag p => Sys2Proof.Machine.execGenClear tag p s
  | .stockSet tag p => Sys2Proof.Machine.execStockSet tag p s
  | .stockSetRemove tag p => Sys2Proof.Machine.execStockSetRemove tag p s
  | .stockRead tag p => Sys2Proof.Machine.execStockRead tag p s
  | .load tag p => Sys2Proof.Machine.execLoad tag p s
  | .unloadEarly tag p => Sys2Proof.Machine.execUnloadEarly tag p s
  | .frameRead tag p => Sys2Proof.Machine.execFrameRead tag p s
  | .cull tag p => Sys2Proof.Machine.execCull tag p s
  | .closeRoll tag p => Sys2Proof.Machine.execCloseRoll tag p s
  | .confirmRoll tag p => Sys2Proof.Machine.execConfirmRoll tag p s
  | .declareUnloaded tag p => Sys2Proof.Machine.execDeclareUnloaded tag p s
  | .tariffSet tag p => Sys2Proof.Machine.execTariffSet tag p s
  | .tariffRead tag p => Sys2Proof.Machine.execTariffRead tag p s
  | .accountSet tag p => Sys2Proof.Machine.execAccountSet tag p s
  | .accountClear tag p => Sys2Proof.Machine.execAccountClear tag p s
  | .accountRead tag p => Sys2Proof.Machine.execAccountRead tag p s
  | .adjust tag p => Sys2Proof.Machine.execAdjust tag p s
  | .journalRead tag p => Sys2Proof.Machine.execJournalRead tag p s
  | .journalRelease tag p => Sys2Proof.Machine.execJournalRelease tag p s
  | .clockSet tag p => Sys2Proof.Machine.execClockSet tag p s
  | .clockRead tag p => Sys2Proof.Machine.execClockRead tag p s
  | .labelRoll tag p => Sys2Proof.Machine.execLabelRoll tag p s
  | .labelFrame tag p => Sys2Proof.Machine.execLabelFrame tag p s
  | .labelCancel tag p => Sys2Proof.Machine.execLabelCancel tag p s
  | .labelRead tag p => Sys2Proof.Machine.execLabelRead tag p s
  | .templateLoad tag p => Sys2Proof.Machine.execTemplateLoad tag p s
  | .templateLock tag p => Sys2Proof.Machine.execTemplateLock tag p s
  | .templateUnlock tag p => Sys2Proof.Machine.execTemplateUnlock tag p s
  | .templateDrop tag p => Sys2Proof.Machine.execTemplateDrop tag p s
  | .templateRead tag p => Sys2Proof.Machine.execTemplateRead tag p s
  | .printerSet tag p => Sys2Proof.Machine.execPrinterSet tag p s
  | .printerStatus tag p => Sys2Proof.Machine.execPrinterStatus tag p s
  | .faultRead tag p => Sys2Proof.Machine.execFaultRead tag p s
  | .faultClear tag p => Sys2Proof.Machine.execFaultClear tag p s
  | .ident tag p => Sys2Proof.Machine.execIdent tag p s
  | .status tag p => Sys2Proof.Machine.execStatus tag p s
  | .standReset tag p => Sys2Proof.Machine.execStandReset tag p s
  | .unknownKind tag kind => Sys2Proof.Machine.execUnknownKind tag kind s
  | .hostBadFrame chars => Sys2Proof.Machine.execHostBadFrame chars s
  | .interByteGap => Sys2Proof.Machine.execInterByteGap s
  | .frameSent => Sys2Proof.Machine.execFrameSent s
  | .reset pins => Sys2Proof.Machine.execReset pins s
  | .footSwitchEdge st edge => Sys2Proof.Machine.execFootSwitchEdge st edge s
  | .doorOpened st => Sys2Proof.Machine.execDoorOpened st s
  | .doorClosed st => Sys2Proof.Machine.execDoorClosed st s
  | .sprocketPulse st => Sys2Proof.Machine.execSprocketPulse st s
  | .advanceTimeout st => Sys2Proof.Machine.execAdvanceTimeout st s
  | .endOfFilmSensor st => Sys2Proof.Machine.execEndOfFilmSensor st s
  | .rewindDone st => Sys2Proof.Machine.execRewindDone st s
  | .rewindTimerExpiry st => Sys2Proof.Machine.execRewindTimerExpiry st s
  | .readyInputRise => Sys2Proof.Machine.execReadyInputRise s
  | .readyInputFall => Sys2Proof.Machine.execReadyInputFall s
  | .flashSensorReport => Sys2Proof.Machine.execFlashSensorReport s
  | .flashConfirmWindowExpiry => Sys2Proof.Machine.execFlashConfirmWindowExpiry s
  | .chargeTimerExpiry => Sys2Proof.Machine.execChargeTimerExpiry s
  | .idleDischarge => Sys2Proof.Machine.execIdleDischarge s
  | .cooling => Sys2Proof.Machine.execCooling s
  | .minuteTimerExpiry => Sys2Proof.Machine.execMinuteTimerExpiry s
  | .printerDone seq => Sys2Proof.Machine.execPrinterDone seq s
  | .printerFault seq code named => Sys2Proof.Machine.execPrinterFault seq code named s
  | .printerReady seq => Sys2Proof.Machine.execPrinterReady seq s
  | .badFrame chars => Sys2Proof.Machine.execBadFrame chars s
  | .printerTimerExpiry => Sys2Proof.Machine.execPrinterTimerExpiry s
  | .statusWaitExpiry => Sys2Proof.Machine.execStatusWaitExpiry s
  | .stationSlotRequest st => Sys2Proof.Machine.execStationSlotRequest st s
  | .printerSlotRequest => Sys2Proof.Machine.execPrinterSlotRequest s

end Sys2Proof.Machine
end

