-- ==== Sys2Proof/Safety.lean ====
section
/-! DEFINITION. What a safe command is, and the other terms the statements use: what a request or an event leads to, the
host requests and their reading ones, and the laws of the state that every step keeps. -/

namespace Sys2Proof.Machine

/-! ### Outcomes -/

/-- The command answers a next state. -/
def Completes (c : Instr) (s : State) : Prop := ∃ t, exec c s = .next t

/-- The state in which the owner of a good request frame finds the part: nothing put out yet, the receiver HUNTING with its
gap timer stopped (R196). -/
def State.asked (s : State) : State :=
  { s with outputs := [], lnk := { s.lnk with receiver := .hunting, gapTimer := none } }

/-- The state in which an event finds the part. -/
def State.begun (s : State) : State := { s with outputs := [] }

/-- LNK takes a frame with this tag as a request and has room for its reply (R197). -/
def Accepts (tag : Byte) (s : State) : Prop := tag ≠ 0 ∧ s.lnk.replies.length < Config.maxReplies

/-- The command leaves `u`, then its reply joins the reply list and a free transmitter chooses (R197, R199). -/
def Answers (c : Instr) (s u : State) (r : Reply) : Prop := exec c s = .next (u.placeReply r).transmit

/-- The command is answered and changes nothing but LNK (R198: a refused request changes no state). -/
def Refuses (c : Instr) (s : State) (tag : Byte) (kind : RequestKind) (status : Status) (body : ReplyBody) : Prop :=
  Answers c s s.asked { tag := tag, kind := kind.code, status := status, body := body }

/-- The event leaves `u`, and a free transmitter chooses (R199). -/
def Does (c : Instr) (s u : State) : Prop := exec c s = .next u.transmit

/-- An OK reply. -/
def okReply (tag : Byte) (kind : RequestKind) (body : ReplyBody := .nothing) : Reply :=
  { tag := tag, kind := kind.code, status := .ok, body := body }

/-! ### The host requests -/

/-- The tag of a command that is a good frame of the host with a tag (R197): every request, and UNKNOWN_KIND. -/
def requestTag? : Instr → Option Byte
  | .orderOpen tag _ | .itemAdd tag _ | .orderSubmit tag _ | .hold tag _ | .release tag _ | .orderPriority tag _
  | .orderCancel tag _ | .orderRead tag _ | .itemRead tag _ | .stationSet tag _ | .stationRead tag _ | .placed tag _
  | .inputTake tag _ | .skipItem tag _ | .abort tag _ | .planQueryDirect tag _ | .planQueryStation tag _
  | .planQueryItem tag _ | .genRead tag _ | .genClear tag _ | .stockSet tag _ | .stockSetRemove tag _
  | .stockRead tag _ | .load tag _ | .unloadEarly tag _ | .frameRead tag _ | .cull tag _ | .closeRoll tag _
  | .confirmRoll tag _ | .declareUnloaded tag _ | .tariffSet tag _ | .tariffRead tag _ | .accountSet tag _
  | .accountClear tag _ | .accountRead tag _ | .adjust tag _ | .journalRead tag _ | .journalRelease tag _
  | .clockSet tag _ | .clockRead tag _ | .labelRoll tag _ | .labelFrame tag _ | .labelCancel tag _ | .labelRead tag _
  | .templateLoad tag _ | .templateLock tag _ | .templateUnlock tag _ | .templateDrop tag _ | .templateRead tag _
  | .printerSet tag _ | .printerStatus tag _ | .faultRead tag _ | .faultClear tag _ | .ident tag _ | .status tag _
  | .standReset tag _ => some tag
  | .unknownKind tag _ => some tag
  | .hostBadFrame _ | .interByteGap | .frameSent | .reset _ | .footSwitchEdge _ _ | .doorOpened _ | .doorClosed _
  | .sprocketPulse _ | .advanceTimeout _ | .endOfFilmSensor _ | .rewindDone _ | .rewindTimerExpiry _ | .readyInputRise
  | .readyInputFall | .flashSensorReport | .flashConfirmWindowExpiry | .chargeTimerExpiry | .idleDischarge | .cooling
  | .minuteTimerExpiry | .printerDone _ | .printerFault _ _ _ | .printerReady _ | .badFrame _ | .printerTimerExpiry
  | .statusWaitExpiry | .stationSlotRequest _ | .printerSlotRequest => none

/-- Whether an outcome of the receiver is a good frame that carries a tag of a request (R197). -/
def isRequestFrame : Received → Bool
  | .good f => decide (f.tag ≠ 0)
  | .nothing | .bad => false

/-- The requests a command brings about: itself; of HOST_BAD_FRAME those whose frames its characters complete (R197), of
UNKNOWN_KIND with a kind that names a request the one of that kind (log entry 6). -/
def broughtBy (c : Instr) (s : State) : List Instr :=
  match c with
  | .hostBadFrame chars =>
    (s.lnk.receiver.takeAll chars).2.filterMap fun
      | .good f => if f.tag = 0 then none else some (commandOf f)
      | .nothing | .bad => none
  | .unknownKind tag kind => [if namesRequest kind then decodeRequest kind tag [] else .unknownKind tag kind]
  | c => [c]

/-- The kind and the tag of a request with a malformed payload (R197 step 3). -/
def malformedKind? : Instr → Option (RequestKind × Byte)
  | .orderOpen tag .malformed => some (.orderOpen, tag)
  | .itemAdd tag .malformed => some (.itemAdd, tag)
  | .orderSubmit tag .malformed => some (.orderSubmit, tag)
  | .hold tag .malformed => some (.hold, tag)
  | .release tag .malformed => some (.release, tag)
  | .orderPriority tag .malformed => some (.orderPriority, tag)
  | .orderCancel tag .malformed => some (.orderCancel, tag)
  | .orderRead tag .malformed => some (.orderRead, tag)
  | .itemRead tag .malformed => some (.itemRead, tag)
  | .stationSet tag .malformed => some (.stationSet, tag)
  | .stationRead tag .malformed => some (.stationRead, tag)
  | .placed tag .malformed => some (.placed, tag)
  | .inputTake tag .malformed => some (.inputTake, tag)
  | .skipItem tag .malformed => some (.skipItem, tag)
  | .abort tag .malformed => some (.abort, tag)
  | .planQueryDirect tag .malformed => some (.planQuery, tag)
  | .planQueryStation tag .malformed => some (.planQuery, tag)
  | .planQueryItem tag .malformed => some (.planQuery, tag)
  | .genRead tag .malformed => some (.genRead, tag)
  | .genClear tag .malformed => some (.genClear, tag)
  | .stockSet tag .malformed => some (.stockSet, tag)
  | .stockSetRemove tag .malformed => some (.stockSet, tag)
  | .stockRead tag .malformed => some (.stockRead, tag)
  | .load tag .malformed => some (.load, tag)
  | .unloadEarly tag .malformed => some (.unloadEarly, tag)
  | .frameRead tag .malformed => some (.frameRead, tag)
  | .cull tag .malformed => some (.cull, tag)
  | .closeRoll tag .malformed => some (.closeRoll, tag)
  | .confirmRoll tag .malformed => some (.confirmRoll, tag)
  | .declareUnloaded tag .malformed => some (.declareUnloaded, tag)
  | .tariffSet tag .malformed => some (.tariffSet, tag)
  | .tariffRead tag .malformed => some (.tariffRead, tag)
  | .accountSet tag .malformed => some (.accountSet, tag)
  | .accountClear tag .malformed => some (.accountClear, tag)
  | .accountRead tag .malformed => some (.accountRead, tag)
  | .adjust tag .malformed => some (.adjust, tag)
  | .journalRead tag .malformed => some (.journalRead, tag)
  | .journalRelease tag .malformed => some (.journalRelease, tag)
  | .clockSet tag .malformed => some (.clockSet, tag)
  | .clockRead tag .malformed => some (.clockRead, tag)
  | .labelRoll tag .malformed => some (.labelRoll, tag)
  | .labelFrame tag .malformed => some (.labelFrame, tag)
  | .labelCancel tag .malformed => some (.labelCancel, tag)
  | .labelRead tag .malformed => some (.labelRead, tag)
  | .templateLoad tag .malformed => some (.templateLoad, tag)
  | .templateLock tag .malformed => some (.templateLock, tag)
  | .templateUnlock tag .malformed => some (.templateUnlock, tag)
  | .templateDrop tag .malformed => some (.templateDrop, tag)
  | .templateRead tag .malformed => some (.templateRead, tag)
  | .printerSet tag .malformed => some (.printerSet, tag)
  | .printerStatus tag .malformed => some (.printerStatus, tag)
  | .faultRead tag .malformed => some (.faultRead, tag)
  | .faultClear tag .malformed => some (.faultClear, tag)
  | .ident tag .malformed => some (.ident, tag)
  | .status tag .malformed => some (.status, tag)
  | .standReset tag .malformed => some (.standReset, tag)
  | _ => none

/-- The kind and the tag of a request that only reads (R17, R18, R23, R67, R89, R93, R111, R120, R125, R142, R146, R154, R161,
R188, R201). -/
def readingKind? : Instr → Option (RequestKind × Byte)
  | .orderRead tag _ => some (.orderRead, tag)
  | .itemRead tag _ => some (.itemRead, tag)
  | .stationRead tag _ => some (.stationRead, tag)
  | .planQueryDirect tag _ | .planQueryStation tag _ | .planQueryItem tag _ => some (.planQuery, tag)
  | .genRead tag _ => some (.genRead, tag)
  | .stockRead tag _ => some (.stockRead, tag)
  | .frameRead tag _ => some (.frameRead, tag)
  | .tariffRead tag _ => some (.tariffRead, tag)
  | .accountRead tag _ => some (.accountRead, tag)
  | .journalRead tag _ => some (.journalRead, tag)
  | .clockRead tag _ => some (.clockRead, tag)
  | .labelRead tag _ => some (.labelRead, tag)
  | .templateRead tag _ => some (.templateRead, tag)
  | .faultRead tag _ => some (.faultRead, tag)
  | .ident tag _ => some (.ident, tag)
  | _ => none

/-! ### Laws of the state -/

/-- The reply list and the notice queue keep within their capacities (R197, R200). -/
def LinkBounded (s : State) : Prop :=
  s.lnk.replies.length ≤ Config.maxReplies ∧ s.lnk.notices.length ≤ Config.maxNotices

/-- The journal's sequence numbers rise strictly and lie below the next one (R135, R136). -/
def JournalOrdered (s : State) : Prop :=
  List.Pairwise (fun a b : JournalEntry => a.seq < b.seq) s.jnl.entries ∧ ∀ e ∈ s.jnl.entries, e.seq < s.jnl.next

/-- The day clock lies within its range, and its minute timer runs exactly while it is not 0 (R145). -/
def ClockLawful (s : State) : Prop :=
  s.clk.minutes ≤ Config.maxMinutes ∧ (s.clk.timer = none ↔ s.clk.minutes = 0)

/-- No two orders present share an id, and at most 32 are present (R1). -/
def OrdersDistinct (s : State) : Prop :=
  List.Pairwise (fun a b : Order => a.id ≠ b.id) s.ord.orders ∧ s.ord.orders.length ≤ Config.maxOrders

/-- Filled and reserved slots together keep within the journal (R135, R137). -/
def JournalBounded (s : State) : Prop := s.jnl.entries.length + s.jnl.reserved ≤ Config.maxJournal

/-- The roll numbers are distinct and at most 9999, at most 8 rolls are present, no roll has used more frames than its
capacity, and used and reserved records together keep within the frame table (R94, R96, R103). -/
def FilmLawful (s : State) : Prop :=
  List.Pairwise (fun a b : Roll => a.number ≠ b.number) s.rol.rolls ∧ s.rol.rolls.length ≤ Config.maxRolls ∧
  s.rol.lastRoll ≤ 9999 ∧ (∀ r ∈ s.rol.rolls, r.number ≤ 9999 ∧ r.next - 1 ≤ r.capacity) ∧
  s.rol.frames.length + s.rol.reserved ≤ Config.maxFrames

/-- A reset that finds retention lost (R203). -/
def isColdReset : Instr → Bool
  | .reset pins => !pins.retentionHeld
  | _ => false

end Sys2Proof.Machine

namespace Sys2Proof

/-- `k` commands from the front of the queue meet no fault and no refusal. -/
def SafeFor (k : Nat) (s : Machine.State) : Prop :=
  match k with
  | 0 => True
  | k + 1 => ∃ t, Machine.step s = .next t ∧ SafeFor k t

end Sys2Proof
end

