-- ==== Sys2Proof/Certificates/Slice0/Obligations.lean ====
section
/-! DEFINITION. The statements for the provers. -/

open Sys2Proof Sys2Proof.Machine

/-! ### The queue and the host link -/

/-- A step runs the command at the front of the queue with the queue's rest; with none waiting the part idles, which is the
model's choice (log entry 11). Every command answers a next state: no rule has the part stop. -/
def Obligations.StepRunsFrontCommand : Prop :=
  (∀ (c : Instr) (s : State) (rest : List Instr),
    step { s with pending := c :: rest } = exec c { s with pending := rest }) ∧
  (∀ s : State, s.pending = [] → step s = .next s) ∧
  ∀ (c : Instr) (s : State), ∃ t, exec c s = .next t

/-- R197 step 1 and its introduction: a good frame with tag 0 is discarded without reply; with 8 replies in the list a
request is discarded, no block sees it, and the request-overflow flag is set. -/
def Obligations.DiscardedRequestsTouchNoBlock : Prop :=
  ∀ (c : Instr) (tag : Byte) (s : State), requestTag? c = some tag →
    (tag = 0 → Does c s s.asked) ∧
    (tag ≠ 0 → Config.maxReplies ≤ s.lnk.replies.length →
      Does c s { s.asked with lnk := { s.asked.lnk with requestOverflow := true } })

/-- R197 steps 2 and 3: a kind that names no request is answered UNKNOWN_KIND, and a malformed payload BAD_FIELD, whatever the
owner; neither changes anything else. With a kind 1 to 53 the UNKNOWN_KIND command is the frame of that kind with an empty
payload (log entry 6). -/
def Obligations.UnknownKindAndMalformedPayloadAnswered : Prop :=
  (∀ (c : Instr) (kind : RequestKind) (tag : Byte) (s : State), malformedKind? c = some (kind, tag) → Accepts tag s →
    Refuses c s tag kind .badField .nothing) ∧
  ∀ (tag kind : Byte) (s : State),
    if namesRequest kind then exec (.unknownKind tag kind) s = exec (decodeRequest kind tag []) s
    else Accepts tag s →
      Answers (.unknownKind tag kind) s s.asked { tag := tag, kind := kind, status := .unknownKind, body := .nothing }

/-- Every reading request is answered once and changes nothing but LNK's reply list and transmitter; and, by the rule of each,
what it reports where its number is in range and what it names is present: R17, R18, R23, R70, R89, R93, R111, R120, R125,
R142, R146, R154, R161, R188. (That an account's list of remaining reservations holds 0s too is log entry 32.) -/
def Obligations.ReadingReportsAndChangesNothing : Prop :=
  (∀ (c : Instr) (kind : RequestKind) (tag : Byte) (s : State), readingKind? c = some (kind, tag) → Accepts tag s →
    ∃ status body, Answers c s s.asked { tag := tag, kind := kind.code, status := status, body := body }) ∧
  ∀ (tag : Byte) (s : State), Accepts tag s →
    let reports (c : Instr) (kind : RequestKind) (body : ReplyBody) : Prop := Answers c s s.asked (okReply tag kind body)
    (∀ id o, s.order? id = some o →
      reports (.orderRead tag (.fields { order := id })) .orderRead (.order o (s.ord.position? id)) ∧
      ∀ n i, o.item? n = some i →
        reports (.itemRead tag (.fields { order := id, item := n })) .itemRead (.item i) ∧
        ∀ k st v, stationOf? k = some st → s.speed? o.stock = some v →
          let es := plannedEntries (s.seq st).settings v i 1 (plannedFrames o.bracket i.copies)
          let energies := (es.filter fun e => !e.exposed).map fun e => e.plan.energy
          reports (.planQueryItem tag (.fields { station := k, order := id, item := n })) .planQuery
            (.plannedItem es energies.sum)) ∧
    (∀ n st, stationOf? n = some st →
      let q := s.seq st
      reports (.stationRead tag (.fields { station := n })) .stationRead (.station q.settings q.mode q.current
        q.footPending q.context (q.faultMemory.map FaultMemory.before))) ∧
    (let g := s.gen
     let listed := allStations.filterMap fun st => (g.request? st).map fun r => (r, g.chosen == some st)
     reports (.genRead tag (.fields ())) .genRead
       (.generator g.mode g.output g.heat listed g.holder g.lastGrant)) ∧
    reports (.stockRead tag (.fields ())) .stockRead (.stocks (s.rol.stocks.map fun k =>
      (k, (s.rol.rolls.filter fun r => r.stock == k.code).length))) ∧
    (∀ n first count r, 1 ≤ n → n ≤ 9999 → 1 ≤ first → first ≤ 250 → 1 ≤ count → count ≤ 8 → s.roll? n = some r →
      let records := (s.rol.frames.filter fun x => x.roll == n).filter fun x =>
        decide (first ≤ x.number ∧ x.number < first + count)
      reports (.frameRead tag (.fields { roll := n, first := first, count := count })) .frameRead (.frames r records)) ∧
    reports (.tariffRead tag (.fields ())) .tariffRead (.tariffs ([1, 2, 3, 4].map fun k =>
      (s.acc.tariffs.get k, (s.acc.accounts.filter fun a => a.cls == k).length))) ∧
    (∀ n a, 1 ≤ n → n ≤ 64 → s.account? n = some a →
      let committed : Int := a.charged + a.adjusted + a.reserved
      let headroom := if a.limit = 0 then none else some ((a.limit : Int) - committed)
      let remaining := (allStations.filterMap fun st => (s.seq st).context).filterMap fun c =>
        if c.account = n then some c.remaining else none
      let entries := (s.jnl.entries.filter fun e => e.account == n).length
      reports (.accountRead tag (.fields { slot := n })) .accountRead (.account a committed headroom
        (s.ord.orders.filter fun o => o.account == n).length remaining entries)) ∧
    (∀ n, 1 ≤ n → n ≤ 8 →
      reports (.journalRead tag (.fields { count := n })) .journalRead (.journal s.jnl.entries.length s.jnl.reserved
        (256 - s.jnl.entries.length - s.jnl.reserved) s.jnl.next (s.jnl.entries.take n))) ∧
    (let v := s.clk.minutes
     reports (.clockRead tag (.fields ())) .clockRead
       (if v = 0 then .clock v none none else .clock v (some (renderDate v)) (some (renderTime v)))) ∧
    (∀ first count, 1 ≤ first → first ≤ 96 → 1 ≤ count → count ≤ 8 →
      let sent := (s.lbl.jobs.filter LabelJob.isSent).length
      let listed := (s.lbl.jobs.drop (first - 1)).take count
      let reads := LabelReadReq.mk first count
      ((∀ j ∈ s.lbl.jobs, j.isSent = true) →
        reports (.labelRead tag (.fields reads)) .labelRead (.labels s.lbl.jobs.length sent none listed)) ∧
      ∀ before j after, s.lbl.jobs = before ++ j :: after → (∀ k ∈ before, k.isSent = true) → j.isSent = false →
        reports (.labelRead tag (.fields reads)) .labelRead (.labels s.lbl.jobs.length sent
          (some { position := before.length + 1, waiting := j.state == .templateWait }) listed)) ∧
    (let slots := s.lbl.slots.zipIdx.map fun (x, i) =>
       (x, (s.lbl.lru.findIdx? fun n => n == i + 1).map fun k => k + 1)
     reports (.templateRead tag (.fields { template := 0 })) .templateRead (.templates slots false false none) ∧
     ∀ n, 1 ≤ n → n ≤ 255 →
       reports (.templateRead tag (.fields { template := n })) .templateRead
         (.templates slots true (s.lbl.content? n).isSome (s.lbl.content? n))) ∧
    (∀ n st, stationOf? n = some st →
      let q := s.seq st
      reports (.faultRead tag (.fields { unit := n })) .faultRead (.stationCapture (s.flt.get (stationUnit st))
        q.faultMemory (q.mode == .fault) ((s.drive st).move == some .recovery))) ∧
    reports (.faultRead tag (.fields { unit := 3 })) .faultRead (.genCapture s.flt.gen s.gen.mode) ∧
    reports (.faultRead tag (.fields { unit := 4 })) .faultRead (.prnCapture s.flt.prn s.prn.state)

/-- R196: characters that complete no request have no effect but on the receiver and its gap timer, which runs exactly while
a frame is being collected; the gap timer's expiry discards the frame. Where characters of the HOST_BAD_FRAME command complete
a good frame with a tag, R197 takes it as the request it spells, and a free transmitter chooses (R199). That the expiry of a
gap timer that is stopped does nothing is log entry 21. -/
def Obligations.BadFramesTouchReceiverAlone : Prop :=
  (∀ (cs : List HostChar) (s : State), cs ≠ [] →
    let r := (s.lnk.receiver.takeAll cs).1
    let gots := (s.lnk.receiver.takeAll cs).2
    gots.any isRequestFrame = false → Does (.hostBadFrame cs) s
      { s.begun with lnk := { s.lnk with receiver := r, gapTimer := if r = .hunting then none else some 50 } }) ∧
  (∀ (cs : List HostChar) (s : State), Does (.hostBadFrame cs) s (s.begun.hearHost cs)) ∧
  (∀ s : State, s.hearHost [] = s) ∧
  (∀ (c : HostChar) (cs : List HostChar) (s : State),
    let r := (s.lnk.receiver.take c).1
    let u := { s with lnk := { s.lnk with receiver := r, gapTimer := if r = .hunting then none else some 50 } }
    s.hearHost (c :: cs) = State.hearHost cs (match (s.lnk.receiver.take c).2 with
      | .good f => if f.tag = 0 then u else (u.takeCommand (decodeRequest f.kind f.tag f.payload)).transmit
      | .nothing | .bad => u)) ∧
  (∀ (c : Instr) (tag : Byte) (s : State), requestTag? c = some tag → (∀ t k, c ≠ .unknownKind t k) →
    Does c s (s.begun.takeCommand c)) ∧
  ∀ s : State, Does .interByteGap s
    (if s.lnk.gapTimer.isSome then { s.begun with lnk := { s.lnk with receiver := .hunting, gapTimer := none } }
     else s.begun)

/-- R199: a transmitter that becomes free sends the oldest reply, else the oldest notice, which leaves its list; with both
lists empty it stays free. R200: a notice joins the end of the queue below 32, and at 32 is dropped
with the overflow flag set. -/
def Obligations.RepliesGoFirstAndNoticesQueue : Prop :=
  (∀ s : State, exec .frameSent s = .next
    (match s.lnk.replies, s.lnk.notices with
     | r :: rs, _ => { s with lnk := { s.lnk with transmitter := some (.reply r), replies := rs }
                              outputs := [.hostFrame (OutFrame.reply r).bytes] }
     | [], n :: ns => { s with lnk := { s.lnk with transmitter := some (.notice n), notices := ns }
                               outputs := [.hostFrame (OutFrame.notice n).bytes] }
     | [], [] => { s with lnk := { s.lnk with transmitter := none }, outputs := [] })) ∧
  ∀ (n : Notice) (s : State), s.raise n =
    if s.lnk.notices.length < 32 then { s with lnk := { s.lnk with notices := s.lnk.notices ++ [n] } }
    else { s with lnk := { s.lnk with noticeOverflow := true } }

/-- R201: IDENT and STATUS are taken in every state; STATUS reports the overflow flags as they stood and clears them. -/
def Obligations.IdentAndStatusAnswered : Prop :=
  ∀ (tag : Byte) (s : State), Accepts tag s →
    Answers (.ident tag (.fields ())) s s.asked (okReply tag .ident (.ident 1)) ∧
    Answers (.status tag (.fields ())) s
      { s.asked with lnk := { s.asked.lnk with noticeOverflow := false, requestOverflow := false } }
      (okReply tag .status (.status s.lnk.noticeOverflow s.lnk.requestOverflow s.lnk.notices.length
        s.lnk.replies.length s.lnk.rate s.lnk.lastReset))

/-- R195, R196: the bytes of a host-link frame with a payload of at most 248 bytes, taken by a hunting receiver, end in
that good frame and in no other, with the receiver hunting again. R195, R198: every frame that the part sends is such a
frame: a reply with the kind and the tag of its request and a payload that begins with its status code, followed by the
bytes of its fields where they fit (what stands there where they do not is a free value, log entry 29), a notice with tag
0. The layouts that R195 leaves open are those of log entry 12. -/
def Obligations.HostFrameIsReceived : Prop :=
  (∀ (kind tag : Byte) (payload : List Byte), payload.length ≤ 248 →
    (Receiver.hunting.takeAll ((hostFrame kind tag payload).map HostChar.byte)).1 = .hunting ∧
    (Receiver.hunting.takeAll ((hostFrame kind tag payload).map HostChar.byte)).2 =
      List.replicate (payload.length + 5) .nothing ++ [.good { kind := kind, tag := tag, payload := payload }]) ∧
  (∀ r : Reply, ∃ fields : List Byte, fields.length ≤ 247 ∧
    (OutFrame.reply r).bytes = hostFrame r.kind r.tag (r.status.code :: fields) ∧
    (r.body.bytes.length ≤ 247 → fields = r.body.bytes)) ∧
  ∀ n : Notice, ∃ fields : List Byte, fields.length ≤ 248 ∧
    (OutFrame.notice n).bytes = hostFrame n.kindByte 0 fields ∧ (n.bytes.length ≤ 248 → fields = n.bytes)

/-- R195: every well-formed request fits the payload of a frame and is read back from its own encoding. Where R195 leaves the
bytes of a field open, the encoding is the one of log entry 12. -/
def Obligations.RequestEncodingReadsBack : Prop :=
  ∀ (c : Instr) (f : RequestFrame), c.wellFormed = true → encodeRequest c = some f →
    f.payload.length ≤ 248 ∧ decodeRequest f.kind f.tag f.payload = c

/-- R197, R200: every step keeps the reply list at 8 and the notice queue at 32 entries or fewer. -/
def Obligations.LinkListsStayBounded : Prop :=
  ∀ s t : State, LinkBounded s → step s = .next t → LinkBounded t

/-! ### Orders -/

/-- R3: the conditions of ORDER_OPEN in their order, and the DRAFT it creates; nothing else changes. (That the transmitter
chooses at the end of the event, in `Answers`, is log entry 4.) -/
def Obligations.OrderOpenCreatesDraft : Prop :=
  ∀ (tag : Byte) (f : OrderOpenReq) (s : State), Accepts tag s →
    let c := Instr.orderOpen tag (.fields f)
    if ¬ orderOpenInRange f then Refuses c s tag .orderOpen .badField .nothing
    else if s.account? f.account = none then Refuses c s tag .orderOpen .notFound .nothing
    else if s.order? f.order ≠ none then Refuses c s tag .orderOpen .busy .nothing
    else if 32 ≤ s.ord.orders.length then Refuses c s tag .orderOpen .full .nothing
    else
      let draft : Order :=
        { id := f.order, state := .draft, account := f.account, cls := f.cls, preference := f.preference
          stock := f.stock, bracket := f.bracket, template := f.template, lecturer := f.lecturer, bound := none
          arrival := none, items := [], nextItem := 1 }
      Answers c s { s.asked with ord := { s.ord with orders := s.ord.orders ++ [draft] } } (okReply tag .orderOpen)

/-- R4: the conditions of ITEM_ADD in their order; the item appended to the DRAFT, its offset clamped to ±48 with CLAMPED
reported; nothing else changes. -/
def Obligations.ItemAddAppendsClamped : Prop :=
  ∀ (tag : Byte) (f : ItemAddReq) (s : State), Accepts tag s →
    let c := Instr.itemAdd tag (.fields f)
    match s.order? f.order with
    | none => Refuses c s tag .itemAdd .notFound .nothing
    | some o =>
      if o.state ≠ .draft then Refuses c s tag .itemAdd .state .nothing
      else if ¬ itemAddInRange f then Refuses c s tag .itemAdd .badField .nothing
      else if 24 ≤ o.items.length ∨ 384 ≤ s.ord.itemsUsed then Refuses c s tag .itemAdd .full .nothing
      else
        let item : Item :=
          { number := o.items.length + 1, offset := max (-48) (min 48 f.offset), filter := f.filter
            copies := f.copies, callNumber := f.callNumber, title := presentText f.title, note := presentText f.note
            state := .pending, framesDone := 0 }
        Answers c s (s.asked.modOrder f.order fun o => { o with items := o.items ++ [item] })
          (okReply tag .itemAdd (.itemAdded (o.items.length + 1) (decide (f.offset < -48 ∨ 48 < f.offset))))

/-- R5: the refusals of ORDER_SUBMIT, and the submission: the order takes the arrival counter's value, the counter advances,
the order is WAITING and dispatch runs. Renumbering comes first when the counter stands at 4,294,967,295. -/
def Obligations.OrderSubmitJoinsQueue : Prop :=
  ∀ (tag : Byte) (f : OrderReq) (s : State), Accepts tag s →
    let c := Instr.orderSubmit tag (.fields f)
    match s.order? f.order with
    | none => Refuses c s tag .orderSubmit .notFound .nothing
    | some o =>
      if o.state ≠ .draft then Refuses c s tag .orderSubmit .state .nothing
      else if o.items = [] then Refuses c s tag .orderSubmit .empty .nothing
      else
        let u := if s.ord.arrival = 4294967295 then { s.asked with ord := s.ord.renumber } else s.asked
        let v := u.modOrder f.order fun o => { o with arrival := some u.ord.arrival, nextItem := 1, state := .waiting }
        let w := { v with ord := { v.ord with arrival := u.ord.arrival + 1 } }
        Answers c s w.dispatch
          (okReply tag .orderSubmit (.arrival u.ord.arrival))

/-- R12, R13: HOLD of a WAITING or HELD order makes it HELD with HOST and queues ORDER_HELD, and nothing else; HOLD of an
ACTIVE one also has its station leave it (R45; what leaving does is stated with ABORT). RELEASE makes a HELD order WAITING, and
dispatch runs. R10: a station's hold report makes an ACTIVE order HELD with its reason and queues ORDER_HELD, and changes an
order in no other state. -/
def Obligations.HoldAndRelease : Prop :=
  (∀ (tag : Byte) (f : OrderReq) (s : State), Accepts tag s →
    let h := Instr.hold tag (.fields f)
    let r := Instr.release tag (.fields f)
    match s.order? f.order with
    | none => Refuses h s tag .hold .notFound .nothing ∧ Refuses r s tag .release .notFound .nothing
    | some o =>
      let held := (s.asked.modOrder f.order fun o => { o with state := .held .host }).raise (.orderHeld f.order .host)
      match o.state with
      | .draft | .exposed | .cancelled =>
        Refuses h s tag .hold .state .nothing ∧ Refuses r s tag .release .state .nothing
      | .waiting => Answers h s held (okReply tag .hold) ∧ Refuses r s tag .release .state .nothing
      | .held _ =>
        Answers h s held (okReply tag .hold) ∧
        Answers r s (State.dispatch (s.asked.modOrder f.order fun o => { o with state := .waiting }))
          (okReply tag .release)
      | .active =>
        (∀ st, o.bound = some st → Answers h s (held.leave st) (okReply tag .hold)) ∧
        Refuses r s tag .release .state .nothing) ∧
  ∀ (id : Nat) (reason : HoldReason) (s : State),
    (∀ o, s.order? id = some o → o.state = .active → s.holdIfActive id reason =
      (s.modOrder id fun o => { o with state := .held reason }).raise (.orderHeld id reason)) ∧
    (∀ o, s.order? id = some o → o.state ≠ .active → s.holdIfActive id reason = s) ∧
    (s.order? id = none → s.holdIfActive id reason = s)

/-- R14: the conditions of ORDER_PRIORITY in their order; the class stored, the arrival number and all else unchanged, no
dispatch. -/
def Obligations.OrderPrioritySetsClass : Prop :=
  ∀ (tag : Byte) (f : OrderPriorityReq) (s : State), Accepts tag s →
    let c := Instr.orderPriority tag (.fields f)
    if 3 < f.cls then Refuses c s tag .orderPriority .badField .nothing
    else match s.order? f.order with
      | none => Refuses c s tag .orderPriority .notFound .nothing
      | some o =>
        if o.state = .exposed ∨ o.state = .cancelled then Refuses c s tag .orderPriority .state .nothing
        else Answers c s (s.asked.modOrder f.order fun o => { o with cls := f.cls }) (okReply tag .orderPriority)

/-- R15, R16: the refusals of ORDER_CANCEL; a DRAFT, WAITING or HELD order is freed where no frame record names it, and else
is CANCELLED with its PENDING items dropped and one IN_PROGRESS made SKIPPED; a station in HELD that keeps it goes to READY,
and dispatch runs. R15 says that every DRAFT is freed: that one whose id stands in a frame record of a former order is
CANCELLED and not freed is the model's choice (log entry 9). -/
def Obligations.OrderCancelEndsOrder : Prop :=
  (∀ (tag : Byte) (f : OrderReq) (s : State), Accepts tag s →
    let c := Instr.orderCancel tag (.fields f)
    match s.order? f.order with
    | none => Refuses c s tag .orderCancel .notFound .nothing
    | some o => match o.state with
      | .active => Refuses c s tag .orderCancel .busy .nothing
      | .exposed | .cancelled => Refuses c s tag .orderCancel .state .nothing
      | .draft | .waiting | .held _ =>
        let freed := s.ord.orders.filter fun o => !(o.id == f.order)
        let cancelled := updateWhere (fun o => o.id == f.order)
          (fun o => { o with state := .cancelled, items := cancelledItems o.items }) s.ord.orders
        let u := { s.asked with ord := { s.ord with orders := if s.named f.order then cancelled else freed } }
        Answers c s (u |> State.releaseKeeper f.order .a |> State.releaseKeeper f.order .b
          |> State.releaseKeeper f.order .d) (okReply tag .orderCancel)) ∧
  ∀ (id : Nat) (st : Station) (s : State), s.releaseKeeper id st =
    match (s.seq st).mode with
    | .held _ => if (s.seq st).current = some id then ((s.clearCurrent st).setMode st .ready).dispatch else s
    | _ => s

/-- R6: the queue holds each WAITING or HELD order once and no other, sorted by class, highest first, and among equal classes
by arrival number, lowest first. -/
def Obligations.QueueIsSorted : Prop :=
  ∀ t : Ord, List.Perm t.queue (t.orders.filter Order.queued) ∧ List.Pairwise Order.before t.queue

/-- R7, R8: at a READY station with a roll, dispatch's second step gives it the first order of the queue that is WAITING,
has the roll's stock, a preference that admits the station and no other binding; with none it changes nothing. Its first
step gives a WAITING order back to the station that keeps it in HELD. R27, R28: the order taken is ACTIVE, bound and
current, a separator is due by three conditions, and its advance needs roll space and a record. R29, R30, R126, R127: else
the order's next item is announced with its reservations, or the first condition that fails decides; an item with no entry
left is passed over DONE, and an order with no item left is EXPOSED. R22: a change of state queues STATION_STATE; a change
of the hold reason alone queues none, which is log entry 20. That an order has at most 24 items is R1, and
the bound it sets on the announces of one event is log entry 13. -/
def Obligations.ReadyStationTakesFirstEligible : Prop :=
  (∀ (again : State → State) (st : Station) (s : State) (r : Roll),
    (s.seq st).mode = .ready → s.rollAt st = some r →
    (∀ (before after : List Order) (o : Order), s.ord.queue = before ++ o :: after →
      (∀ p ∈ before, p.eligible st r.stock = false) → o.eligible st r.stock = true →
      s.offer again st = s.takeOrder again st o) ∧
    ((∀ o ∈ s.ord.queue, o.eligible st r.stock = false) → s.offer again st = s)) ∧
  (∀ s : State, ∃ again : State → State, s.dispatch =
    (s |> State.giveBack again .a |> State.giveBack again .b |> State.giveBack again .d
       |> State.offer again .a |> State.offer again .b |> State.offer again .d)) ∧
  (∀ (again : State → State) (st : Station) (s : State),
    (∀ h id o, (s.seq st).mode = .held h → (s.seq st).current = some id → s.order? id = some o → o.state = .waiting →
      s.giveBack again st = s.takeOrder again st o) ∧
    ((s.seq st).mode.hold? = none ∨ (∀ id o, (s.seq st).current = some id → s.order? id = some o → o.state ≠ .waiting) →
      s.giveBack again st = s)) ∧
  (∀ (again : State → State) (st : Station) (o : Order) (s : State),
    let u := (s.modOrder o.id fun x => { x with state := .active, bound := some st }).modSeq st fun q =>
      { q with current := some o.id }
    s.takeOrder again st o = if u.separatorDue st o.id then u.advanceSeparator st o else u.announce again st) ∧
  (∀ (st : Station) (id : Nat) (s : State) (r : Roll), s.rollAt st = some r →
    let frames := s.rol.frames.filter fun x => x.roll == r.number
    (s.separatorDue st id = true ↔ (s.seq st).settings.separator = true ∧
      frames.getLast?.map Frame.kind ≠ some .separator ∧
      ∃ named, (frames.filterMap fun x => x.exposure.map Exposure.order).getLast? = some named ∧ named ≠ id)) ∧
  (∀ (st : Station) (o : Order) (i : Item) (s : State) (r : Roll), s.rollAt st = some r → o.nextItem? = some i →
    let left := ((plannedFrames o.bracket i.copies).drop i.framesDone).length
    s.advanceSeparator st o =
      if r.capacity + 1 - r.next < left + 2 then
        (s.modRoll r.number fun x => { x with capacity := x.next - 1 }).takeRollEnd st
      else if 1024 < s.rol.frames.length + s.rol.reserved + 1 then
        (s.holdIfActive o.id .tableFull).setMode st (.held .tableFull)
      else
        let u := { s with rol := { s.rol with reserved := s.rol.reserved + 1 } }
        (((u.setMode st .separating).recordFrame r .separator none).startMove st .advance).filmEndIfSeen st) ∧
  (∀ (again : State → State) (st : Station) (s : State) (id : Nat) (o : Order),
    (s.seq st).current = some id → s.order? id = some o →
    (o.nextItem? = none → s.announce again st =
      again (((s.exposeOrder o.id).modSeq st fun q => { q with current := none }).setMode st .ready)) ∧
    ∀ i, o.nextItem? = some i →
      let entries := plannedFrames o.bracket i.copies
      let left := entries.drop i.framesDone
      let spent := i.state = .inProgress ∧ i.framesDone = entries.length
      (spent → o.items.length ≤ 24 → s.announce again st = (s.endItem st o.id i.number .done).announce again st) ∧
      ∀ r a, ¬ spent → s.rollAt st = some r → s.account? o.account = some a →
        let rates := s.acc.tariffs.get a.cls
        let snapshot : RateSnapshot := { centre := rates.centre, bracket := rates.bracket, copy := rates.copy }
        let cost := (left.map fun e => snapshot.rate e.kind).sum
        s.announce again st =
          if r.capacity + 1 - r.next < left.length + 1 then
            (s.modRoll r.number fun x => { x with capacity := x.next - 1 }).takeRollEnd st
          else if 1024 < s.rol.frames.length + s.rol.reserved + (left.length + 1) then
            (s.holdIfActive o.id .tableFull).setMode st (.held .tableFull)
          else if a.limit = 0 ∨ (a.charged : Int) + a.adjusted + a.reserved + cost ≤ a.limit then
            let c : ItemContext :=
              { order := o.id, item := i.number, account := o.account, entries := entries, nextIndex := i.framesDone + 1
                rates := snapshot, remaining := cost, records := left.length + 1, retake := 0, slotHeld := false
                request := .none, plan := none, recorded := false }
            let u := { s with rol := { s.rol with reserved := s.rol.reserved + (left.length + 1) } }
            let v := u.modAccount o.account fun x => { x with reserved := x.reserved + cost }
            let w := v.modItem o.id i.number fun x => { x with state := .inProgress }
            ((w.modSeq st fun q => { q with context := some c, footPending := false }).setMode st .announced).raise
              (.itemReady st o.id i.number i.callNumber)
          else (s.holdIfActive o.id .limit).setMode st (.held .limit)) ∧
  ∀ (st : Station) (m : Mode) (s : State),
    let u := s.modSeq st fun q => { q with mode := m, roomReport := false }
    s.setMode st m = if (s.seq st).mode.code = m.code then u else u.raise (.stationState st m (s.seq st).current)

/-- R1: every step keeps the order ids distinct and the orders at 32 or fewer. -/
def Obligations.OrderIdsStayDistinct : Prop :=
  ∀ s t : State, OrdersDistinct s → step s = .next t → OrdersDistinct t

/-! ### Stations -/

/-- R21, R32: the conditions of STATION_SET in their order and the record replaced; INPUT_TAKE reports the pending flag as it
stood and clears it. A station number outside 0..2 is refused BAD_FIELD first. -/
def Obligations.StationSetAndInputTake : Prop :=
  ∀ (tag : Byte) (f : StationSetReq) (s : State), Accepts tag s →
    let c := Instr.stationSet tag (.fields f)
    let i := Instr.inputTake tag (.fields { station := f.station })
    match stationOf? f.station with
    | none => Refuses c s tag .stationSet .badField .nothing ∧ Refuses i s tag .inputTake .badField .nothing
    | some st =>
      (if ¬ settingsInRange f.settings then Refuses c s tag .stationSet .badField .nothing
       else if (s.seq st).mode ≠ .unloaded ∧ (s.seq st).mode ≠ .ready then Refuses c s tag .stationSet .busy .nothing
       else if (s.seq st).mode = .ready ∧ (s.rollAt st).any (fun r => r.back != f.settings.back) then
         Refuses c s tag .stationSet .busy .nothing
       else Answers c s (s.asked.modSeq st fun q => { q with settings := f.settings }) (okReply tag .stationSet)) ∧
      Answers i s (s.asked.modSeq st fun q => { q with footPending := false })
        (okReply tag .inputTake (.footPending (s.seq st).footPending))

/-- R31, R32: PLACED in ANNOUNCED is placement and is refused STATE elsewhere; a foot-switch edge of the selected polarity
with the switch enabled is placement in ANNOUNCED and sets the pending flag elsewhere; every other edge does nothing. -/
def Obligations.PlacementInAnnouncedAlone : Prop :=
  ∀ (tag : Byte) (n : Nat) (st : Station) (e : Edge) (s : State), stationOf? n = some st →
    let c := Instr.placed tag (.fields { station := n })
    (Accepts tag s →
      if (s.seq st).mode = .announced then Answers c s (s.asked.beginEntry st) (okReply tag .placed)
      else Refuses c s tag .placed .state .nothing) ∧
    (if (s.seq st).settings.footEnabled = true ∧ (s.seq st).settings.footEdge = e then
       if (s.seq st).mode = .announced then Does (.footSwitchEdge st e) s (s.begun.beginEntry st)
       else Does (.footSwitchEdge st e) s (s.begun.modSeq st fun q => { q with footPending := true })
     else Does (.footSwitchEdge st e) s s.begun)

/-- R33: an entry begins with a journal slot. With room the slot is reserved and held and the station goes on; without, a
station that has recorded a frame for the item waits in HELD with its order ACTIVE, and one that has not settles, and its
order is HELD with JOURNAL_FULL. -/
def Obligations.EntryNeedsJournalSlot : Prop :=
  ∀ (st : Station) (s : State) (c : ItemContext), (s.seq st).context = some c →
    s.beginEntry st =
      if 0 < s.jnl.free ∧ s.jnl.reserved < 4294967296 - s.jnl.next then
        State.claim false st (({ s with jnl := { s.jnl with reserved := s.jnl.reserved + 1 } } : State).modContext st
          fun c => { c with slotHeld := true })
      else if c.recorded then s.setMode st (.held .journalFull)
      else ((s.settle st).holdIfActive c.order .journalFull).setMode st (.held .journalFull)

/-- R34: with its slot held the station stores the plan of its settings, the roll's stock, the item and the entry, with no pop
fired, and places a request of the order's class and the plan's energy; it goes to EXPOSING but for an early request. R34
places the request and then goes to EXPOSING; that the station enters EXPOSING first, so that a grant at once finds it there,
is log entry 14. R41: an early request is placed with a slot reserved for it, with early request on and an entry left. R46,
R80: a request placed in FAULT is answered by the fault at once, and any other is listed (log entry 16). -/
def Obligations.ClaimPlacesPlannedRequest : Prop :=
  (∀ (early : Bool) (st : Station) (s : State) (c : ItemContext) (o : Order) (i : Item) (e : Entry) (r : Roll) (v : Int),
    (s.seq st).context = some c → s.order? c.order = some o → o.item? c.item = some i →
    c.entries[c.nextIndex - 1]? = some e → s.rollAt st = some r → s.speed? r.stock = some v →
    let x := (s.seq st).settings
    let p := shotPlan
      { calibration := x.calibration, subject := i.offset, speed := v, filter := filterCorrection x i.filter
        magnification := x.magnification, offset := e.offset, rounding := x.rounding }
    let u := s.modContext st fun c =>
      { c with plan := some { plan := p, fired := 0, confirmed := 0 }, request := .waiting }
    s.claim early st = State.placeRequest st o.cls p.energy (if early then u else u.setMode st .exposing)) ∧
  (∀ (st : Station) (s : State) (c : ItemContext), (s.seq st).context = some c →
    s.earlyRequest st =
      if (s.seq st).settings.early = true ∧ c.nextIndex ≤ c.entries.length ∧ 0 < s.jnl.free ∧
          s.jnl.reserved < 4294967296 - s.jnl.next then (s.takeSlot st).claim true st
      else s) ∧
  ∀ (st : Station) (cls energy : Nat) (s : State),
    s.placeRequest st cls energy =
      if s.gen.mode = .fault then s.genFaultUnfired st
      else s.listRequest { station := st, cls := cls, energy := energy }

/-- R26, R128: settling discards the context, lowers the account's reserved amount by the remaining reservation and the
frame-table count by the records reserved, and hands a held slot back; it touches no entry, no frame and no roll. A listed
request is withdrawn, and a grant released unless a pop is outstanding: then it is kept until that pop's report. With no
item context there is nothing to settle. That a grant with a pop outstanding is kept until the report is log entry 16. -/
def Obligations.SettleReturnsReservations : Prop :=
  (∀ (st : Station) (s : State) (c : ItemContext), (s.seq st).context = some c →
    let t := s.settle st
    let released := updateWhere (fun a => a.slot == c.account)
      (fun a => { a with reserved := a.reserved - c.remaining }) s.acc.accounts
    let u := s.modContext st fun c => { c with request := .none }
    (t.seq st).context = none ∧
    t.acc = { s.acc with accounts := released } ∧
    t.rol = { s.rol with reserved := s.rol.reserved - c.records } ∧
    t.jnl = { s.jnl with reserved := if c.slotHeld then s.jnl.reserved - 1 else s.jnl.reserved } ∧
    t.ord = s.ord ∧ t.drives = s.drives ∧ t.flt = s.flt ∧ t.clk = s.clk ∧ t.lbl = s.lbl ∧ t.lnk = s.lnk ∧
    t.gen = (match c.request with
      | .none => s.gen
      | .waiting => (u.withdraw st).gen
      | .granted => if (s.seq st).popWait = .none then (u.releaseGrant st).gen else s.gen) ∧
    (c.request = .granted → (s.seq st).popWait ≠ .none → (t.seq st).popWait = .discard)) ∧
  (∀ (st : Station) (s : State), (s.seq st).context = none → s.settle st = s) ∧
  ∀ (st : Station) (s : State) (c : ItemContext), (s.seq st).context = some c →
    let u := s.modContext st fun c => { c with request := .none }
    s.dropClaim st = (match c.request with
      | .none => s
      | .waiting => u.withdraw st
      | .granted => if (s.seq st).popWait = .none then u.releaseGrant st
        else u.modSeq st fun q => { q with popWait := .discard }) ∧
    s.dropSlot st = if c.slotHeld then
        let v := s.modContext st fun c => { c with slotHeld := false }
        State.roomReport { v with jnl := { s.jnl with reserved := s.jnl.reserved - 1 } }
      else s

/-- R42, R43: SKIP_ITEM ends the announced item SKIPPED, settles it and goes on as at an item end; ABORT makes the order
WAITING and the station leaves it, and dispatch runs. Both are refused STATE elsewhere; R43 says so of a station with no
current order in SEPARATING and ADVANCING, and of one in EXPOSING it is log entry 15. R43, R44, R45: a station leaves its order
by its state: it settles, and goes to READY where no advance runs; with a pop outstanding it waits for that pop's report to
spoil the frame; with pops asked and none outstanding it spoils the frame at once. -/
def Obligations.SkipAndAbort : Prop :=
  (∀ (tag : Byte) (n : Nat) (st : Station) (s : State), Accepts tag s → stationOf? n = some st →
    let k := Instr.skipItem tag (.fields { station := n })
    let a := Instr.abort tag (.fields { station := n })
    (∀ c, (s.seq st).mode = .announced → (s.seq st).context = some c →
      let u := (s.asked.endItem st c.order c.item .skipped).settle st
      Answers k s (if u.itemsLeft c.order then u.announce State.dispatch st
        else (u.orderDone st c.order).becomeReady st) (okReply tag .skipItem)) ∧
    ((s.seq st).mode ≠ .announced → Refuses k s tag .skipItem .state .nothing) ∧
    (∀ id, (s.seq st).current = some id → s.orderActive id = true →
      (s.seq st).mode ∈ [.separating, .announced, .exposing, .advancing, .held .journalFull] →
      Answers a s (((s.asked.modOrder id fun o => { o with state := .waiting }).leave st).dispatch)
        (okReply tag .abort)) ∧
    ((s.seq st).mode ∈ [.unloaded, .loading, .ready, .ending, .awaitUnload, .interrupted, .fault] →
      Refuses a s tag .abort .state .nothing) ∧
    ((s.seq st).current = none → Refuses a s tag .abort .state .nothing) ∧
    (∀ id, (s.seq st).current = some id → s.orderActive id = false → Refuses a s tag .abort .state .nothing)) ∧
  (∀ (st : Station) (s : State),
    let left := (s.settle st).modSeq st fun q => { q with current := none }
    let ready := (left.setMode st .ready).dispatch
    s.leave st = match (s.seq st).mode with
      | .announced | .held _ => ready
      | .separating | .advancing | .fault => left
      | .exposing => match (s.seq st).context.bind ItemContext.plan with
        | none => ready
        | some p =>
          if p.fired = 0 then ready
          else if (s.seq st).popWait = .none then
            let freed := (s.modContext st fun c => { c with request := .none }).releaseGrant st
            (freed.modSeq st fun q => { q with current := none }).spoilAndLeave st
          else s.modSeq st fun q => { q with popWait := .spoil, current := none }
      | .unloaded | .loading | .ready | .ending | .awaitUnload | .interrupted => s) ∧
  ∀ (st : Station) (s : State), s.spoilAndLeave st =
    ((((s.recordShot st .spoiled).settle st).modSeq st fun q => { q with current := none }).advance false st)

/-- R9: when an item ends, its state is DONE or SKIPPED and the next item index moves to the first later position whose item
is PENDING or IN_PROGRESS, or one past the last position where there is none; its station queues ITEM_DONE. An order becomes
EXPOSED with ORDER_DONE and is freed where no frame record names it (R16). -/
def Obligations.NextItemIndexMovesOn : Prop :=
  (∀ (o : Order) (i : Item) (e : ItemState), o.nextItem? = some i → e = .done ∨ e = .skipped →
    List.Pairwise (fun a b : Item => a.number ≠ b.number) o.items →
    let t := o.endItem i.number e
    t.items.map Item.number = o.items.map Item.number ∧
    (∀ j ∈ t.items, j.number = i.number → j.state = e) ∧
    (∀ j ∈ o.items, j.number ≠ i.number → j ∈ t.items) ∧
    o.nextItem < t.nextItem ∧ t.nextItem ≤ o.items.length + 1 ∧
    (∀ k j, o.nextItem < k → k < t.nextItem → t.items[k - 1]? = some j → j.state = .done ∨ j.state = .skipped) ∧
    (∀ j, t.items[t.nextItem - 1]? = some j → j.state = .pending ∨ j.state = .inProgress)) ∧
  (∀ (st : Station) (s : State) (o : Order) (i : Item) (e : ItemState),
    s.order? o.id = some o → o.item? i.number = some i →
    s.endItem st o.id i.number e =
      (s.modOrder o.id (Order.endItem i.number e)).raise (.itemDone st o.id i.number e i.framesDone)) ∧
  ∀ (id : Nat) (s : State) (o : Order), s.order? id = some o →
    let u := (s.modOrder id fun o => { o with state := .exposed }).raise (.orderDone id)
    s.exposeOrder id =
      if s.named id then u
      else { u with ord := { u.ord with orders := u.ord.orders.filter fun o => !(o.id == id) } }

/-- R35, R36: the frame whose last pop is confirmed is recorded EXPOSED and charged once: one frame record with the entry's
and the plan's figures, one EXPOSURE entry of the snapshot rate with the same date, and no other record or entry; the grant is
released first, and the station goes on to the next entry and advances. That the roll has a frame left, the frame table a
record and the journal a slot for it are the laws of R94, R103 and R135, which no run breaks. R39, R44: a spoiled frame is
recorded uncharged with the same figures and uses one reserved record. R36, R41: to advance, the drive starts and the station
is ADVANCING, with an early request where one may be placed. -/
def Obligations.CompletedFrameIsRecordedAndCharged : Prop :=
  (∀ (st : Station) (s : State) (c : ItemContext) (r : Roll) (e : Entry) (p : CurrentPlan),
    (s.seq st).context = some c → s.rollAt st = some r → c.entries[c.nextIndex - 1]? = some e → c.plan = some p →
    r.next ≤ r.capacity → s.rol.frames.length < 1024 → s.jnl.entries.length < 256 →
    let t := s.completeEntry st
    let shot : Exposure :=
      { order := c.order, item := c.item, index := c.nextIndex, kind := e.kind, offset := e.offset
        level := p.plan.level, pops := p.plan.pops, achieved := p.plan.achieved, deviation := p.plan.deviation
        overFlag := p.plan.overFlag, underFlag := p.plan.underFlag }
    t.rol.frames = s.rol.frames ++
      [{ roll := r.number, number := r.next, kind := .exposed, exposure := some shot, charged := true, date := s.stamp
         suspect := false, verdict := .none, label := .none, duplicateRisk := false, uncertain := false }] ∧
    t.jnl.entries = s.jnl.entries ++
      [{ seq := s.jnl.next, kind := .exposure, account := c.account, amount := c.rates.rate e.kind
         order := some c.order, item := some c.item, roll := some r.number, frame := some r.next, date := s.stamp }]) ∧
  (∀ (st : Station) (s : State) (c : ItemContext) (r : Roll), (s.seq st).context = some c → s.rollAt st = some r →
    let freed := (s.modContext st fun c => { c with request := .none }).releaseGrant st
    let posted := (freed.recordShot st .exposed).postExposure st r.number r.next
    let counted := posted.modItem c.order c.item fun i => { i with framesDone := i.framesDone + 1 }
    s.completeEntry st =
      (counted.modContext st fun c => { c with nextIndex := c.nextIndex + 1, plan := none }).advance true st) ∧
  (∀ (st : Station) (s : State) (c : ItemContext) (r : Roll) (e : Entry) (p : CurrentPlan) (kind : FrameKind),
    (s.seq st).context = some c → s.rollAt st = some r → c.entries[c.nextIndex - 1]? = some e → c.plan = some p →
    kind = .exposed ∨ kind = .spoiled → r.next ≤ r.capacity → s.rol.frames.length < 1024 →
    let t := s.recordShot st kind
    let shot : Exposure :=
      { order := c.order, item := c.item, index := c.nextIndex, kind := e.kind, offset := e.offset
        level := p.plan.level, pops := p.plan.pops, achieved := p.plan.achieved, deviation := p.plan.deviation
        overFlag := p.plan.overFlag, underFlag := p.plan.underFlag }
    let frame : Frame :=
      { roll := r.number, number := r.next, kind := kind, exposure := some shot, charged := kind == .exposed
        date := s.stamp, suspect := false, verdict := .none, label := .none, duplicateRisk := false, uncertain := false }
    t = { s with
      rol := { s.rol with frames := s.rol.frames ++ [frame], reserved := s.rol.reserved - 1
                          rolls := s.rol.rolls.map fun x =>
                            if x.number = r.number then { x with next := x.next + 1 } else x }
      seqs := s.seqs.modify (fun q =>
        { q with context := some { c with records := c.records - 1, recorded := true } }) st }) ∧
  ∀ (early : Bool) (st : Station) (s : State),
    let u := (s.modDrive st fun d =>
      { d with move := some .advance, pulses := 0, motor := .forward, advanceTimer := some 1500 }).setMode st .advancing
    let v := if early then u.earlyRequest st else u
    s.advance early st = if (v.drive st).endSeen then v.filmEnd st else v

/-- R20: the settings record of a station changes at no command but STATION_SET and a cold reset. (HOST_BAD_FRAME brings about
the requests whose frames its characters complete.) -/
def Obligations.SettingsChangeByStationSetAlone : Prop :=
  ∀ (c : Instr) (s t : State) (st : Station), (∀ r ∈ broughtBy c s, ∀ tag p, r ≠ .stationSet tag p) →
    isColdReset c = false →
    exec c s = .next t → (t.seq st).settings = (s.seq st).settings

/-! ### Exposure arithmetic -/

/-- R56 to R58, R61, R62, R65: the required exposure lies within −228..+336 for inputs in their ranges; and what every shot
plan keeps: the pop count and its band, the level at most 21, the achieved exposure and deviation, the frame energy within
1..512, OVER from R = 34 on, UNDER from its threshold of the mode down. -/
def Obligations.EveryPlanStaysInRange : Prop :=
  (∀ i : PlanInputs, -120 ≤ i.calibration → i.calibration ≤ 120 → -48 ≤ i.subject → i.subject ≤ 48 → -9 ≤ i.speed →
    i.speed ≤ 6 → i.filter ≤ 48 → i.magnification ≤ 300 → -36 ≤ i.offset → i.offset ≤ 36 →
    (shotPlan i).required =
      i.calibration + i.subject - 4 * i.speed + i.filter + bellowsCorrection i.magnification + i.offset ∧
    -228 ≤ (shotPlan i).required ∧ (shotPlan i).required ≤ 336) ∧
  ∀ (mode : Rounding) (r : Int),
    let p := planOf mode r
    p.required = r ∧
    p.pops = (if r ≤ 0 then 1 else if r ≤ 11 then 2 else if r ≤ 22 then 4 else 8) ∧
    p.level ≤ 21 ∧ -84 ≤ p.achieved ∧ p.achieved ≤ 33 ∧ p.deviation = p.achieved - r ∧
    p.energy = p.pops * popEnergy p.level ∧ 1 ≤ p.energy ∧ p.energy ≤ 512 ∧
    (p.overFlag = true ↔ 34 ≤ r) ∧
    (p.underFlag = true ↔ r ≤ (match mode with
      | .nearestEven => -86
      | .moreLight => -88
      | .lessLight => -85))

/-- R63: with neither flag set the deviation follows from the remainder of the surplus and the rounding mode alone; a plan
with a deviation outside its mode's range carries OVER and at most −1, or UNDER and at least +1. -/
def Obligations.DeviationFollowsFromRemainder : Prop :=
  ∀ (mode : Rounding) (r : Int),
    let p := planOf mode r
    (p.overFlag = false → p.underFlag = false → ∀ x, surplus r = some x →
      p.deviation = (match mode, x % 4 with
        | _, 0 => 0
        | .nearestEven, 1 => 1
        | .nearestEven, 2 => if x / 4 % 2 = 0 then 2 else -2
        | .nearestEven, _ => -1
        | .moreLight, k => (k : Int)
        | .lessLight, k => (k : Int) - 4)) ∧
    (p.overFlag = true → p.deviation ≤ -1) ∧ (p.underFlag = true → 1 ≤ p.deviation)

/-- R25: a planned frame list has B + copies − 1 entries with exactly one CENTRE, the copies last at offset 0, and every
offset a multiple of the step within ±36. -/
def Obligations.PlannedListHasOneCentre : Prop :=
  ∀ (b : Bracket) (copies : Nat), b.count ∈ [1, 3, 5, 7] → b.step ∈ [3, 4, 6, 12] → copies ∈ [1, 2, 3, 4] →
    let es := plannedFrames b copies
    es.length = b.count + copies - 1 ∧
    (es.filter fun e => e.kind = .centre) = [{ offset := 0, kind := .centre }] ∧
    es.drop b.count = List.replicate (copies - 1) { offset := 0, kind := .copy } ∧
    (es.take b.count).map Entry.offset = (match b.sequence with
      | .centreFirst => centreFirstOffsets b.count b.step
      | .ascending => ascendingOffsets b.count b.step) ∧
    ∀ e ∈ es, -36 ≤ e.offset ∧ e.offset ≤ 36 ∧ e.offset % b.step = 0

/-- R68, R69, R71: PLAN_QUERY in the DIRECT and STATION forms answers the planner's figures for its inputs, with its
refusals in their order, and changes nothing. -/
def Obligations.PlanQueryReportsThePlan : Prop :=
  ∀ (tag : Byte) (d : PlanDirectReq) (f : PlanStationReq) (s : State), Accepts tag s →
    let c := Instr.planQueryDirect tag (.fields d)
    let q := Instr.planQueryStation tag (.fields f)
    (if ¬ planDirectInRange d then Refuses c s tag .planQuery .badField .nothing
     else
       let p := shotPlan
         { calibration := d.calibration, subject := d.subject, speed := d.speed, filter := d.filter
           magnification := d.magnification, offset := d.offset, rounding := d.rounding }
       Answers c s s.asked (okReply tag .planQuery (.planned (bellowsCorrection d.magnification) p
         (surplus p.required) ((surplus p.required).map (· % 4))))) ∧
    (match stationOf? f.station with
     | none => Refuses q s tag .planQuery .badField .nothing
     | some st =>
       if ¬ planStationInRange f then Refuses q s tag .planQuery .badField .nothing
       else match s.speed? f.stock with
         | none => Refuses q s tag .planQuery .notFound .nothing
         | some v =>
           let x := (s.seq st).settings
           let p := shotPlan
             { calibration := x.calibration, subject := f.subject, speed := v, filter := filterCorrection x f.filter
               magnification := x.magnification, offset := f.offset, rounding := x.rounding }
           Answers q s s.asked (okReply tag .planQuery (.plannedAt (bellowsCorrection x.magnification) p)))

/-! ### The generator -/

/-- R88: GEN_CLEAR is refused STATE outside FAULT and BUSY while the GEN capture is locked; else the generator goes to OFF at
SAFE and GENERATOR_STATE is queued, and nothing else of the generator changes. -/
def Obligations.GenClearReturnsToOff : Prop :=
  ∀ (tag : Byte) (s : State), Accepts tag s →
    let c := Instr.genClear tag (.fields ())
    if s.gen.mode ≠ .fault then Refuses c s tag .genClear .state .nothing
    else if s.flt.gen ≠ none then Refuses c s tag .genClear .busy .nothing
    else Answers c s (({ s.asked with gen := { s.gen with mode := .off, output := .safe } } : State).raise
      (.generatorState .off s.gen.heat)) (okReply tag .genClear)

/-- R74, R76: the ready input's rise ends CHARGING: a pending fire is given at once, and with no grant the arbiter chooses; its
fall in READY starts the charge timer afresh and unchooses. In the other states only the level is noted. R78, R79, R83: a
cooling expiry sheds one heat unit and tests the chosen request again; the idle timer's expiry discharges an idle generator
to OFF and restarts the timer otherwise. That the expiry of an idle timer that is stopped does nothing is log entry 21. -/
def Obligations.ReadyInputAndTimersMoveTheGenerator : Prop :=
  ∀ s : State,
    (let g := { s.gen with readyInput := true }
     if s.gen.mode ≠ .charging then Does .readyInputRise s { s.begun with gen := g }
     else
       let ready := { s.begun with gen := { g with mode := .ready, chargeTimer := none } }
       match s.gen.holder with
       | none => Does .readyInputRise s ready.choose
       | some h => match h.pending with
         | none => Does .readyInputRise s ready
         | some p => Does .readyInputRise s
             { s.begun with
               gen := { g with mode := .firing, output := .level p, chargeTimer := none, windowTimer := some 20
                               holder := some { h with given := h.given + 1, pending := none } }
               outputs := [.fire p] }) ∧
    (let g := { s.gen with readyInput := false }
     if s.gen.mode ≠ .ready then Does .readyInputFall s { s.begun with gen := g }
     else Does .readyInputFall s
       { s.begun with gen := { g with mode := .charging, chosen := none, chargeTimer := some 6000 } }) ∧
    Does .cooling s
      (State.testChosen { s.begun with gen := { s.gen with heat := s.gen.heat - 1, coolingTimer := some 125 } }) ∧
    Does .idleDischarge s
      (if s.gen.idleTimer = none then s.begun
       else if s.gen.requests = [] ∧ s.gen.holder = none ∧ (s.gen.mode = .ready ∨ s.gen.mode = .charging) then
         ({ s.begun with gen :=
           { s.gen with mode := .off, output := .safe, chargeTimer := none, idleTimer := none } } : State).raise
           (.generatorState .off s.gen.heat)
       else { s.begun with gen := { s.gen with idleTimer := some 900000 } })

/-- R77, R78: in FIRING with a grant held, a sensor report adds E(p), restarts the idle timer and confirms the pop to the
holder; the window's expiry leaves the heat and reports a misfire. The generator goes to READY or CHARGING by the ready
input. In any other state the sensor's report is not acted upon, and the window's timer is stopped: that its expiry then
does nothing is log entry 21. R26, R35, R44: the station acts on the pop it waits for, spoils the frame it is leaving, or
releases a grant it has settled. R35: a confirmed pop asks for the next or completes the entry. R39, R40: a misfire
releases the grant, records the frame SPOILED and releases the slot; the first sets the retake count, and a repeated one is
captured first. That a grant whose station has settled is released at the report is log entry 16, and that a misfired frame
keeps its plan is log entry 17. -/
def Obligations.FiringEndsInPopOrMisfire : Prop :=
  (∀ s : State,
    (s.gen.mode ≠ .firing →
      Does .flashSensorReport s s.begun ∧ Does .flashConfirmWindowExpiry s s.begun) ∧
    (∀ (h : Holder) (p : Nat), s.gen.mode = .firing → s.gen.holder = some h → s.gen.output = .level p →
      s.gen.windowTimer ≠ none →
      let after (g : Gen) : State := { s.begun with gen :=
        if s.gen.readyInput then { g with mode := .ready } else { g with mode := .charging, chargeTimer := some 6000 } }
      Does .flashSensorReport s
        ((after { s.gen with heat := s.gen.heat + popEnergy p, windowTimer := none, idleTimer := some 900000 }).popReport
          h.station (State.confirmPop h.station)) ∧
      Does .flashConfirmWindowExpiry s
        ((after { s.gen with windowTimer := none }).popReport h.station (State.misfire h.station)))) ∧
  (∀ (st : Station) (act : State → State) (s : State),
    let heard := s.modSeq st fun q => { q with popWait := .none }
    s.popReport st act = match (s.seq st).popWait with
      | .none => s
      | .act => act heard
      | .spoil => ((heard.modContext st fun c => { c with request := .none }).releaseGrant st).spoilAndLeave st
      | .discard => heard.releaseGrant st) ∧
  (∀ (st : Station) (s : State) (c : ItemContext) (p : CurrentPlan), (s.seq st).context = some c → c.plan = some p →
    let u := s.modContext st fun c => { c with plan := some { p with confirmed := p.confirmed + 1 } }
    s.confirmPop st = if p.confirmed + 1 < p.plan.pops then u.askPop st else u.completeEntry st) ∧
  ∀ (st : Station) (s : State) (c : ItemContext) (r : Roll), (s.seq st).context = some c → s.rollAt st = some r →
    let captured := s.capture (stationUnit st)
      { kind := .station .misfireRepeat, date := none, station := none, order := some c.order, item := some c.item
        roll := some r.number, frame := some r.next, further := false }
    let spoiled (t : State) : State :=
      (((t.modContext st fun c => { c with request := .none }).releaseGrant st).recordShot st .spoiled).dropSlot st
    (c.retake = 0 → s.misfire st =
      ((spoiled s).modContext st fun c => { c with retake := 1 }).advance true st) ∧
    (1 ≤ c.retake → s.misfire st =
      ((spoiled captured).modSeq st fun q => { q with repeatMisfire := true }).advance false st)

/-- R75, R87: the charge timer's expiry in CHARGING captures GEN_CHARGE_TIMEOUT, with the holder's station, order, item,
roll and next frame where a grant is held (R185), and the generator enters FAULT; that a timer that is stopped does nothing
is log entry 21. Entering FAULT leaves the output at SAFE, both timers stopped, no grant, no request and none chosen, and
GENERATOR_STATE is queued; then the stations act, the holder and each that had a request waiting. R44, R46: a holder that has
been given a fire spoils its frame, and any other station settles and goes to READY where no advance runs, its ACTIVE order
HELD with GENERATOR. That the holder acts first, and the waiting stations in the order A, B, D, is the model's choice (log
entry 28). -/
def Obligations.ChargeTimeoutEntersFault : Prop :=
  (∀ s : State, Does .chargeTimerExpiry s
    (if s.gen.mode = .charging ∧ s.gen.chargeTimer ≠ none then
       (s.begun.capture .gen s.chargeCapture).enterGenFault
     else s.begun)) ∧
  (∀ s : State,
    let bare : Capture :=
      { kind := .genChargeTimeout, date := none, station := none, order := none, item := none, roll := none
        frame := none, further := false }
    s.chargeCapture = match s.gen.holder with
      | none => bare
      | some h =>
        let c := (s.seq h.station).context
        let r := s.rollAt h.station
        { bare with station := some h.station, order := c.map ItemContext.order, item := c.map ItemContext.item
                    roll := r.map Roll.number, frame := r.map Roll.next }) ∧
  (∀ s : State, s.enterGenFault.gen.mode = .fault ∧ s.enterGenFault.gen.output = .safe ∧
    s.enterGenFault.gen.chargeTimer = none ∧ s.enterGenFault.gen.idleTimer = none ∧
    s.enterGenFault.gen.holder = none ∧ s.enterGenFault.gen.requests = [] ∧ s.enterGenFault.gen.chosen = none ∧
    s.enterGenFault.gen.heat = s.gen.heat) ∧
  (∀ s : State,
    let u : State := { s with gen := { s.gen with
      mode := .fault, output := .safe, chargeTimer := none, idleTimer := none, chosen := none, holder := none
      requests := [] } }
    let told := u.raise (.generatorState .fault s.gen.heat)
    let v := match s.gen.holder with
      | some h => told.genFaultHolder h.station h.given
      | none => told
    let waited (st : Station) (t : State) : State :=
      if ∃ r ∈ s.gen.requests, r.station = st then t.genFaultUnfired st else t
    s.enterGenFault = waited .d (waited .b (waited .a v))) ∧
  (∀ (st : Station) (given : Nat) (s : State),
    let u := s.modSeq st fun q => { q with popWait := .none }
    let v := u.modContext st fun c => { c with request := .none }
    let left := (v.settle st).modSeq st fun q => { q with current := none }
    s.genFaultHolder st given = match (s.seq st).popWait with
      | .discard => u
      | .spoil => if given = 0 then (left.setMode st .ready).dispatch else v.spoilAndLeave st
      | .none | .act =>
        if given = 0 then v.genFaultUnfired st
        else State.spoilAndLeave st (match (s.seq st).current with
          | some id => v.holdIfActive id .generator
          | none => v)) ∧
  ∀ (st : Station) (s : State),
    let held := match (s.seq st).current with
      | some id => s.holdIfActive id .generator
      | none => s
    let left := (held.settle st).modSeq st fun q => { q with current := none }
    s.genFaultUnfired st = if (s.seq st).mode = .exposing then (left.setMode st .ready).dispatch else left

/-- R82: the arbiter, READY with no grant and none chosen, chooses from a list that is not empty a request of highest class
and, in that class, of the least recent station, and tests it; under any other condition it chooses nothing. R81: a station not
granted since the reset comes before every granted one, such stations in the order A, B, D, and the granted ones by their last
grant, oldest first. R85, R86: a release and a withdrawal leave the arbiter to choose again. -/
def Obligations.ArbiterChoosesHighestThenLeastRecent : Prop :=
  (∀ s : State,
    (s.gen.mode = .ready → s.gen.holder = none → s.gen.chosen = none → s.gen.requests ≠ [] →
      ∃ r ∈ s.gen.requests,
        s.choose = State.testChosen { s with gen := { s.gen with chosen := some r.station } } ∧
        ∀ q ∈ s.gen.requests, q.cls < r.cls ∨ (q.cls = r.cls ∧ s.gen.recency r.station ≤ s.gen.recency q.station)) ∧
    (s.gen.mode ≠ .ready ∨ s.gen.holder ≠ none ∨ s.gen.chosen ≠ none ∨ s.gen.requests = [] → s.choose = s)) ∧
  (∀ (g : Gen) (x y : Station),
    (x ∉ g.lastGrant → y ∈ g.lastGrant → g.recency x < g.recency y) ∧
    (x ∉ g.lastGrant → y ∉ g.lastGrant → (g.recency x < g.recency y ↔
      (x = .a ∧ y ≠ .a) ∨ (x = .b ∧ y = .d))) ∧
    (∀ before middle after, g.lastGrant = before ++ x :: middle ++ y :: after → x ∉ before → y ∉ before →
      y ∉ middle → x ≠ y → g.recency x < g.recency y)) ∧
  (∀ (st : Station) (s : State),
    (∀ h, s.gen.holder = some h → h.station = st →
      s.releaseGrant st = State.choose { s with gen := { s.gen with holder := none } }) ∧
    ((∀ h, s.gen.holder = some h → h.station ≠ st) → s.releaseGrant st = s)) ∧
  ∀ (st : Station) (s : State), s.withdraw st =
    State.choose { s with gen := { s.gen with
      requests := s.gen.requests.filter fun r => !(r.station == st)
      chosen := if s.gen.chosen = some st then none else s.gen.chosen } }

/-- R83: the chosen request is granted exactly when the heat account plus its energy is within 512: it leaves the list, the
station becomes the holder with no fire given and the last of the grant order, the idle timer restarts, the station hears
of it. R35: the station granted fires at once in EXPOSING and else holds its grant idle; a pop asked is counted and
outstanding, and (R76) its fire is given in READY and kept pending in CHARGING. R73, R80, R83: a request placed in OFF arms the
generator, in READY is chosen where none is or where its class is higher, and in CHARGING or FIRING is only listed. -/
def Obligations.GrantTestsHeat : Prop :=
  (∀ (s : State) (st : Station) (r : GenRequest), s.gen.chosen = some st → s.gen.request? st = some r →
    s.testChosen =
      if s.gen.heat + r.energy ≤ 512 then
        let others := s.gen.requests.filter fun q => !(q.station == st)
        let order := s.gen.lastGrant.filter fun x => !(x == st)
        State.granted st { s with gen :=
          { s.gen with requests := others, chosen := none
                       holder := some { station := st, given := 0, pending := none }
                       lastGrant := order ++ [st], idleTimer := some 900000 } }
      else s) ∧
  (∀ (st : Station) (s : State),
    let u := s.modContext st fun c => { c with request := .granted }
    s.granted st = if (s.seq st).mode = .exposing then u.askPop st else u) ∧
  (∀ (st : Station) (s : State) (c : ItemContext) (p : CurrentPlan) (h : Holder),
    (s.seq st).context = some c → c.plan = some p → s.gen.holder = some h → h.station = st →
    let u := s.modSeq st fun q =>
      { q with popWait := .act, context := some { c with plan := some { p with fired := p.fired + 1 } } }
    (s.gen.mode = .ready → s.askPop st =
      { u with
        gen := { s.gen with mode := .firing, output := .level p.plan.level, windowTimer := some 20
                            holder := some { h with given := h.given + 1, pending := none } }
        outputs := s.outputs ++ [.fire p.plan.level] }) ∧
    (s.gen.mode = .charging → s.askPop st =
      { u with gen := { s.gen with holder := some { h with pending := some p.plan.level } } })) ∧
  ∀ (r : GenRequest) (s : State),
    let listed := { s.gen with requests := s.gen.requests ++ [r] }
    (s.gen.mode = .off →
      let g := { listed with output := .level 0, idleTimer := some 900000 }
      (s.gen.readyInput = true → s.listRequest r =
        (({ s with gen := { g with mode := .ready } } : State).raise (.generatorState .ready s.gen.heat)).choose) ∧
      (s.gen.readyInput = false → s.listRequest r =
        ({ s with gen := { g with mode := .charging, chargeTimer := some 6000 } } : State).raise
          (.generatorState .charging s.gen.heat))) ∧
    (s.gen.mode = .charging ∨ s.gen.mode = .firing → s.listRequest r = { s with gen := listed }) ∧
    (s.gen.mode = .ready → s.gen.chosen = none → s.listRequest r = State.choose { s with gen := listed }) ∧
    ∀ st q, s.gen.mode = .ready → s.gen.chosen = some st → s.gen.request? st = some q → s.listRequest r =
      if q.cls < r.cls then State.testChosen { s with gen := { listed with chosen := some r.station } }
      else { s with gen := listed }

/-! ### Film -/

/-- R93: the conditions of STOCK_SET in their order; the entry present with the fields given, or absent after REMOVE, and every
other entry as before. -/
def Obligations.StockSetReplacesOneEntry : Prop :=
  ∀ (tag : Byte) (f : StockSetReq) (g : StockReq) (s : State), Accepts tag s →
    let c := Instr.stockSet tag (.fields f)
    let d := Instr.stockSetRemove tag (.fields g)
    (if ¬ stockSetInRange f then Refuses c s tag .stockSet .badField .nothing
     else if ∃ r ∈ s.rol.rolls, r.stock = f.code then Refuses c s tag .stockSet .busy .nothing
     else ∃ ks, Answers c s { s.asked with rol := { s.rol with stocks := ks } } (okReply tag .stockSet) ∧
       (ks.find? fun k => k.code == f.code) = some { code := f.code, speed := f.speed, name := f.name } ∧
       ∀ n, n ≠ f.code → (ks.find? fun k => k.code == n) = s.rol.stocks.find? fun k => k.code == n) ∧
    (if g.code < 1 ∨ 15 < g.code then Refuses d s tag .stockSet .badField .nothing
     else if s.speed? g.code = none then Refuses d s tag .stockSet .notFound .nothing
     else if ∃ r ∈ s.rol.rolls, r.stock = g.code then Refuses d s tag .stockSet .busy .nothing
     else ∃ ks, Answers d s { s.asked with rol := { s.rol with stocks := ks } } (okReply tag .stockSet) ∧
       (ks.find? fun k => k.code == g.code) = none ∧
       ∀ n, n ≠ g.code → (ks.find? fun k => k.code == n) = s.rol.stocks.find? fun k => k.code == n)

/-- R96, R97: the conditions of LOAD in their order; the roll it creates in LOADING, the first leader frame started, the
station LOADING. With at most 7 rolls present its number is 1..9999 and carried by no other. R94, R103: every step keeps the
roll numbers distinct, the rolls at 8, every roll's frames within its capacity, and used and reserved records within 1024. -/
def Obligations.LoadStartsRoll : Prop :=
  (∀ (tag : Byte) (f : LoadReq) (s : State), Accepts tag s →
    let c := Instr.load tag (.fields f)
    match stationOf? f.station with
    | none => Refuses c s tag .load .badField .nothing
    | some st =>
      if f.stock < 1 ∨ 15 < f.stock then Refuses c s tag .load .badField .nothing
      else if s.speed? f.stock = none then Refuses c s tag .load .notFound .nothing
      else if (s.seq st).mode ≠ .unloaded then Refuses c s tag .load .state .nothing
      else if (s.drive st).door ≠ .closed then Refuses c s tag .load .busy .nothing
      else if 8 ≤ s.rol.rolls.length then Refuses c s tag .load .full .nothing
      else
        let back := (s.seq st).settings.back
        let capacity := match back with
          | .cassette => 36
          | .bulk => 250
        let roll : Roll :=
          { number := s.rol.nextNumber, station := some st, stock := f.stock, back := back, capacity := capacity
            next := 1, state := .loading, short := false, openedInLight := false, uncertainFrame := false
            loadDate := if s.clk.minutes = 0 then none else some s.clk.minutes }
        let u := { s.asked with rol := { s.rol with rolls := s.rol.rolls ++ [roll], lastRoll := s.rol.nextNumber } }
        let v := u.modDrive st fun d =>
          { d with endSeen := false, leader := 0, move := some .leader, pulses := 0, motor := .forward
                   advanceTimer := some 1500 }
        let w := v.modSeq st fun q => { q with mode := .loading, roomReport := false }
        Answers c s (w.raise (.stationState st .loading (s.seq st).current))
          (okReply tag .load (.loaded s.rol.nextNumber capacity))) ∧
  (∀ t : Rol, t.rolls.length < 8 → t.lastRoll ≤ 9999 →
    1 ≤ t.nextNumber ∧ t.nextNumber ≤ 9999 ∧ ∀ r ∈ t.rolls, r.number ≠ t.nextNumber) ∧
  ∀ s t : State, FilmLawful s → step s = .next t → FilmLawful t

/-- R109, R116, R117: UNLOAD_EARLY, CONFIRM_ROLL and DECLARE_UNLOADED at a station with a roll: refused STATE but in READY,
INTERRUPTED and INTERRUPTED; what each does to the roll, the drive and the station, by the roll's former state. While the
recovery advance runs the station is INTERRUPTED still and the roll OPEN: that a second CONFIRM_ROLL is then taken and changes
nothing, and that DECLARE_UNLOADED stops the drive, is log entry 19, and no words of R116 or R117. -/
def Obligations.RollsFinishedConfirmedOrDeclared : Prop :=
  ∀ (tag : Byte) (n : Nat) (st : Station) (r : Roll) (s : State), Accepts tag s → stationOf? n = some st →
    s.rollAt st = some r →
    let e := Instr.unloadEarly tag (.fields { station := n })
    let c := Instr.confirmRoll tag (.fields { station := n })
    let d := Instr.declareUnloaded tag (.fields { station := n })
    (if (s.seq st).mode ≠ .ready then Refuses e s tag .unloadEarly .state .nothing
     else Answers e s ((s.asked.modRoll r.number fun r => { r with capacity := r.next - 1 }).takeRollEnd st)
       (okReply tag .unloadEarly)) ∧
    (if (s.seq st).mode ≠ .interrupted then
       Refuses c s tag .confirmRoll .state .nothing ∧ Refuses d s tag .declareUnloaded .state .nothing
     else
       (match r.state with
        | .interrupted .opened =>
          let u := s.asked.modRoll r.number fun r => { r with state := .opened }
          if r.capacity < r.next then Answers c s (u.takeRollEnd st) (okReply tag .confirmRoll)
          else if 1024 < s.rol.frames.length + s.rol.reserved + 1 then Refuses c s tag .confirmRoll .full .nothing
          else Answers c s (((u.recordFrame r .recovery none).startMove st .advance).filmEndIfSeen st)
            (okReply tag .confirmRoll)
        | .interrupted .loading =>
          let u := s.asked.modRoll r.number fun r => { r with state := .loading }
          let v := u.modDrive st fun d => { d with leader := 0 }
          Answers c s ((((v.setMode st .loading).startMove st .leader)).filmEndIfSeen st) (okReply tag .confirmRoll)
        | .interrupted .rewinding =>
          let u := s.asked.modRoll r.number fun r => { r with state := .rewinding }
          Answers c s ((u.setMode st .ending).modDrive st fun d =>
            { d with move := some .rewind, motor := .reverse, rewindTimer := some 60000 }) (okReply tag .confirmRoll)
        | .loading | .opened | .rewinding | .full | .out => Answers c s s.asked (okReply tag .confirmRoll)) ∧
       Answers d s (((s.asked.modDrive st Drive.stop).rollOut r.number st fun r =>
         { r with capacity := r.next - 1, uncertainFrame := true }).setMode st .unloaded)
         (okReply tag .declareUnloaded))

/-- R47, R107: a station that takes the roll's end has no item and no order; with a CASSETTE back the roll is REWINDING, the
drive rewinds with 60 s and the station is ENDING; with a BULK back the roll is FULL and the station in AWAIT_UNLOAD. An item
with no entry left ends first, and with it an order with no further item (R38); an order still ACTIVE is HELD with
ROLL_END. -/
def Obligations.RollEndIsTaken : Prop :=
  ∀ (st : Station) (s : State) (r : Roll), s.rollAt st = some r →
    let t := s.takeRollEnd st
    (t.seq st).context = none ∧ (t.seq st).current = none ∧ t.rol.frames = s.rol.frames ∧
    (match r.back with
     | .cassette =>
       t.rollAt st = some { r with state := .rewinding } ∧ (t.seq st).mode = .ending ∧
       (t.drive st).move = some .rewind ∧ (t.drive st).motor = .reverse ∧ (t.drive st).rewindTimer = some 60000
     | .bulk => t.rollAt st = some { r with state := .full } ∧ (t.seq st).mode = .awaitUnload) ∧
    (((∀ c, (s.seq st).context = some c → c.nextIndex ≤ c.entries.length) →
      match (s.seq st).current with
      | none => t.ord = s.ord
      | some id => t.ord = (s.holdIfActive id .rollEnd).ord) ∧
     ∀ c, (s.seq st).context = some c → c.entries.length < c.nextIndex →
      let ended := (s.endItem st c.order c.item .done).settle st
      if ended.itemsLeft c.order then
        (match (s.seq st).current with
         | none => t.ord = ended.ord
         | some id => t.ord = (ended.holdIfActive id .rollEnd).ord)
      else t.ord = (ended.exposeOrder c.order).ord)

/-- R112, R114: the conditions of CULL and of CLOSE_ROLL in their order; CULL gives the named frames their verdicts and tests
ROLL_LABELLED; CLOSE_ROLL frees the roll, its frames and the ended orders nothing names any longer. -/
def Obligations.CullAndCloseRoll : Prop :=
  ∀ (tag : Byte) (f : CullReq) (g : CloseRollReq) (s : State), Accepts tag s →
    let c := Instr.cull tag (.fields f)
    let d := Instr.closeRoll tag (.fields g)
    (if ¬ (1 ≤ f.first ∧ f.first ≤ 250 ∧ 1 ≤ f.actions.length ∧ f.actions.length ≤ 32) then
       Refuses c s tag .cull .badField .nothing
     else match s.roll? f.roll with
       | none => Refuses c s tag .cull .notFound .nothing
       | some r =>
         let named := s.rol.frames.filter fun x => x.roll == f.roll && (cullVerdict f x.number).isSome
         if r.state ≠ .out then Refuses c s tag .cull .state .nothing
         else if r.next ≤ f.first + f.actions.length - 1 then Refuses c s tag .cull .badField .nothing
         else if named.any (fun x => x.kind == .separator || x.kind == .recovery) then
           Refuses c s tag .cull .badField .nothing
         else if named.any (fun x => x.label != .none || s.lbl.hasJobFor x.roll x.number) then
           Refuses c s tag .cull .labelled .nothing
         else
           let frames := s.rol.frames.map fun x =>
             if x.roll = f.roll then { x with verdict := (cullVerdict f x.number).getD x.verdict } else x
           let changed := named.filter fun x => cullVerdict f x.number != some x.verdict
           Answers c s (State.testLabelled f.roll (s.labelled f.roll)
             { s.asked with rol := { s.rol with frames := frames } }) (okReply tag .cull (.changed changed.length))) ∧
    (match s.roll? g.roll with
     | none => Refuses d s tag .closeRoll .notFound .nothing
     | some r =>
       if r.state ≠ .out then Refuses d s tag .closeRoll .state .nothing
       else if s.lbl.jobs.any (fun j => j.roll == g.roll) then Refuses d s tag .closeRoll .busy .nothing
       else match (s.framesOf g.roll).find? fun x => !(g.force || x.settled) with
         | some x => Refuses d s tag .closeRoll .state (.firstFrame x.number)
         | none =>
           let u := { s.asked with rol :=
             { s.rol with rolls := s.rol.rolls.filter fun r => !(r.number == g.roll)
                          frames := s.rol.frames.filter fun x => !(x.roll == g.roll) } }
           let t := (s.ordersOnRoll g.roll).foldl (fun t id => t.freeOrder id) u
           Answers d s t (okReply tag .closeRoll
             (.closed (s.framesOf g.roll).length (s.ord.orders.length - t.ord.orders.length))))

/-- R98 to R101: a pulse counts in a leader frame, an advance or a recovery pull alone, and the eighth completes the move;
the advance timer's expiry stops it as a jam; the sensor's report ends it, sets end-seen with no move, and does nothing in
a rewind; the rewind ends at the rewind-done input or at its timer; door closed changes the door state alone. That the
expiries of an advance timer and of a rewind timer that are stopped do nothing is log entry 21. R37, R38, R102: what a
completed leader frame or advance leads to. R99, R187: the fault a move that timed out is captured as, and the FAULT it
leads to. R40, R100, R108, R190: the film's end in a move. That a station going to FAULT keeps its plan is log entry 17. -/
def Obligations.DriveEventsActOnTheMove : Prop :=
  (∀ (st : Station) (s : State),
    (let u := s.begun.modDrive st fun d => { d with pulses := d.pulses + 1 }
     Does (.sprocketPulse st) s
       (match (s.drive st).move with
        | some .rewind | none => s.begun
        | some m => if (s.drive st).pulses < 7 then u else (u.modDrive st Drive.stop).moveOver st m)) ∧
    Does (.advanceTimeout st) s
      (match (s.drive st).advanceTimer, (s.drive st).move with
       | some _, some m => (s.begun.modDrive st Drive.stop).jam st m
       | _, _ => s.begun) ∧
    Does (.endOfFilmSensor st) s
      (match (s.drive st).move with
       | some .rewind => s.begun
       | some _ => s.begun.filmEnd st
       | none => s.begun.modDrive st fun d => { d with endSeen := true }) ∧
    (∀ r, s.rollAt st = some r → Does (.rewindDone st) s
      (if (s.drive st).move = some .rewind then
         (((s.begun.modDrive st Drive.stop).modRoll r.number fun r => { r with state := .full }).raise
           (.rollFull r.number st r.capacity (r.next - 1) r.short)).setMode st .awaitUnload
       else s.begun)) ∧
    Does (.rewindTimerExpiry st) s
      (if (s.drive st).rewindTimer = none then s.begun
       else ((s.begun.modDrive st Drive.stop).capture (stationUnit st)
         { kind := .station .rewindTimeout, date := none, station := none, order := none, item := none
           roll := (s.rollAt st).map Roll.number, frame := none, further := false }).enterFault st .rewindTimeout
           false) ∧
    Does (.doorClosed st) s (s.begun.modDrive st fun d => { d with door := .closed })) ∧
  (∀ d : Drive, d.stop = { d with move := none, motor := .stopped, advanceTimer := none, rewindTimer := none }) ∧
  (∀ (st : Station) (m : Move) (s : State),
    s.startMove st m = s.modDrive st (fun d =>
      { d with move := some m, pulses := 0, motor := .forward, advanceTimer := some 1500 }) ∧
    s.filmEndIfSeen st = if (s.drive st).endSeen then s.filmEnd st else s) ∧
  (∀ (st : Station) (s : State) (r : Roll), s.rollAt st = some r →
    let u := s.modDrive st fun d => { d with leader := d.leader + 1 }
    s.moveOver st .leader =
      if (s.drive st).leader < 2 then (u.startMove st .leader).filmEndIfSeen st
      else ((u.modRoll r.number fun r => { r with state := .opened }).setMode st .ready).dispatch) ∧
  (∀ (st : Station) (s : State) (r : Roll), s.rollAt st = some r →
    s.rest st = if r.capacity < r.next then s.takeRollEnd st else (s.setMode st .ready).dispatch) ∧
  (∀ (st : Station) (s : State), s.moveOver st .advance = match (s.seq st).mode with
    | .separating => if (s.seq st).current = none then s.rest st else s.announce State.dispatch st
    | .advancing =>
      if (s.seq st).repeatMisfire then s.enterFault st .misfireRepeat false
      else (match (s.seq st).context with
        | none => s.rest st
        | some c =>
          if c.entries.length < c.nextIndex then
            let ended := (s.endItem st c.order c.item .done).settle st
            if ended.itemsLeft c.order then
              if ended.endReached st then ended.takeRollEnd st else ended.announce State.dispatch st
            else ((ended.exposeOrder c.order).modSeq st fun q => { q with current := none }).rest st
          else if s.endReached st then s.takeRollEnd st
          else match c.request with
            | .granted => (s.setMode st .exposing).askPop st
            | .waiting => s.setMode st .exposing
            | .none => s.beginEntry st)
    | _ => s.rest st) ∧
  (∀ (st : Station) (m : Move) (s : State) (r : Roll), s.rollAt st = some r →
    let q := s.seq st
    let fault : StationFault := match m, q.faultMemory with
      | .leader, _ => .leaderJam
      | .recovery, some x => if x.cause = .leaderJam then .leaderJam else .jam
      | _, _ => .jam
    let c : Capture :=
      { kind := .station fault, date := none, station := none, roll := some r.number, frame := some r.next
        order := if fault = .jam then q.current else none
        item := if fault = .jam then q.context.map ItemContext.item else none, further := false }
    let u := s.capture (stationUnit st) c
    s.jam st m =
      if q.mode = .fault then
        u.modSeq st fun q => { q with faultMemory := q.faultMemory.map fun x => { x with cause := fault, unfinished := true } }
      else u.enterFault st (if q.repeatMisfire then .misfireRepeat else fault) true) ∧
  (∀ (st : Station) (cause : StationFault) (unfinished : Bool) (s : State),
    let memory : FaultMemory := { before := (s.seq st).mode, cause := cause, unfinished := unfinished }
    let u := s.modSeq st fun q => { q with faultMemory := some memory, repeatMisfire := false }
    s.enterFault st cause unfinished = ((u.setMode st .fault).dropClaim st).dropSlot st) ∧
  ∀ (st : Station) (s : State) (r : Roll), s.rollAt st = some r →
    let u := s.modDrive st Drive.stop
    let v := if r.capacity < r.next then u
      else u.modRoll r.number fun x => { x with capacity := x.next - 1, short := true }
    s.filmEnd st = match (s.seq st).mode with
      | .fault =>
        if (s.seq st).faultMemory.any fun x => x.cause == .leaderJam then v.takeRollEnd st
        else
          let held := match (s.seq st).current with
            | some id => v.holdIfActive id .fault
            | none => v
          (((held.settle st).modSeq st fun q => { q with current := none }).takeRollEnd st)
      | .advancing => if (s.seq st).repeatMisfire then v.enterFault st .misfireRepeat false else v.takeRollEnd st
      | _ => v.takeRollEnd st

/-- R48, R110: whatever the station was doing, after its door opens its drive stands still with the door open and end-seen
clear, and the station is UNLOADED with no item and no order; a live roll that was in its back is OUT, opened in light, with
every frame of it suspect. An ACTIVE order becomes HELD with ROLL_END, and a frame for which a fire has been given is recorded
SPOILED, uncharged. End-seen is cleared at every opening by R100; that this holds at an UNLOADED station too is log entry 18,
where R110 says that only the door state changes. -/
def Obligations.DoorOpenedClearsTheStand : Prop :=
  ∀ (st : Station) (s : State), ∃ t, exec (.doorOpened st) s = .next t ∧
    (t.drive st).move = none ∧ (t.drive st).motor = .stopped ∧ (t.drive st).door = .opened ∧
    (t.drive st).endSeen = false ∧ (t.seq st).mode = .unloaded ∧
    ((s.seq st).mode ≠ .unloaded → (s.seq st).mode ≠ .awaitUnload →
      (t.seq st).context = none ∧ (t.seq st).current = none ∧
      (∀ id, (s.seq st).current = some id → t.ord = (s.holdIfActive id .rollEnd).ord) ∧
      (∀ c h p e r, (s.seq st).context = some c → c.request = .granted → c.plan = some p →
        c.entries[c.nextIndex - 1]? = some e → s.gen.holder = some h → h.station = st → 1 ≤ h.given →
        s.rollAt st = some r → r.next ≤ r.capacity → s.rol.frames.length < 1024 →
        ∃ x ∈ t.rol.frames, x.roll = r.number ∧ x.number = r.next ∧ x.kind = .spoiled ∧ x.charged = false) ∧
      ∀ r, s.rollAt st = some r → r.state ≠ .full →
        (∃ q ∈ t.rol.rolls, q.number = r.number) ∧
        (∀ q ∈ t.rol.rolls, q.number = r.number →
          q.state = .out ∧ q.station = none ∧ q.openedInLight = true ∧ q.capacity = q.next - 1) ∧
        ∀ x ∈ t.rol.frames, x.roll = r.number → x.suspect = true)

/-! ### Accounts, journal and clock -/

/-- R119, R123, R124: the conditions of TARIFF_SET, ACCOUNT_SET and ACCOUNT_CLEAR in their order; the four rates, or the name,
class and limit, replaced; a new account with its sums at 0 and every other slot as before; an account removed. -/
def Obligations.TariffsAndAccountsAreSet : Prop :=
  ∀ (tag : Byte) (f : TariffSetReq) (g : AccountSetReq) (h : AccountReq) (s : State), Accepts tag s →
    let c := Instr.tariffSet tag (.fields f)
    let d := Instr.accountSet tag (.fields g)
    let e := Instr.accountClear tag (.fields h)
    (if ¬ tariffSetInRange f then Refuses c s tag .tariffSet .badField .nothing
     else ∃ x : Tariffs, Answers c s { s.asked with acc := { s.acc with tariffs := x } } (okReply tag .tariffSet) ∧
       x.get f.cls = { centre := f.centre, bracket := f.bracket, copy := f.copy, mount := f.mount } ∧
       ∀ n ∈ [1, 2, 3, 4], n ≠ f.cls → x.get n = s.acc.tariffs.get n) ∧
    (if ¬ accountSetInRange g then Refuses d s tag .accountSet .badField .nothing
     else match s.account? g.slot with
       | none => ∃ xs, Answers d s { s.asked with acc := { s.acc with accounts := xs } } (okReply tag .accountSet) ∧
         (xs.find? fun a => a.slot == g.slot) = some
           { slot := g.slot, name := g.name, cls := g.cls, limit := g.limit, charged := 0, mounted := 0
             adjusted := 0, reserved := 0 } ∧
         ∀ n, n ≠ g.slot → (xs.find? fun a => a.slot == n) = s.account? n
       | some a =>
         if g.limit ≠ 0 ∧ (g.limit : Int) < a.charged + a.adjusted + a.reserved then
           Refuses d s tag .accountSet .belowCommitted (.committed (a.charged + a.adjusted + a.reserved))
         else Answers d s (s.asked.modAccount g.slot fun a => { a with name := g.name, cls := g.cls, limit := g.limit })
           (okReply tag .accountSet)) ∧
    (if h.slot < 1 ∨ 64 < h.slot then Refuses e s tag .accountClear .badField .nothing
     else match s.account? h.slot with
       | none => Refuses e s tag .accountClear .notFound .nothing
       | some a =>
         if (∃ o ∈ s.ord.orders, o.account = h.slot) ∨ a.reserved ≠ 0 ∨ ∃ x ∈ s.jnl.entries, x.account = h.slot then
           Refuses e s tag .accountClear .busy .nothing
         else
           let left := s.acc.accounts.filter fun x => !(x.slot == h.slot)
           Answers e s { s.asked with acc := { s.acc with accounts := left } } (okReply tag .accountClear))

/-- R131, R139: the conditions of ADJUST in their order, and the ADJUST entry appended with the next sequence number; an
adjusted amount that stays within its 48-bit range is the sum. R129: a posting covered by the reservation moves its rate
from reserved to charged and leaves the committed amount as it was. -/
def Obligations.AdjustAndChargeMoveMoney : Prop :=
  (∀ (tag : Byte) (f : AdjustReq) (s : State), Accepts tag s →
    let c := Instr.adjust tag (.fields f)
    if ¬ adjustInRange f then Refuses c s tag .adjust .badField .nothing
    else match s.account? f.slot with
      | none => Refuses c s tag .adjust .notFound .nothing
      | some a =>
        let total : Int := a.charged + a.adjusted + a.reserved
        if 0 < f.amount ∧ a.limit ≠ 0 ∧ (a.limit : Int) < total + f.amount then
          Refuses c s tag .adjust .overLimit (.headroom (a.limit - total))
        else if ¬ (0 < s.jnl.free ∧ s.jnl.reserved < 4294967296 - s.jnl.next) then
          Refuses c s tag .adjust .journalFull .nothing
        else
          let entry : JournalEntry :=
            { seq := s.jnl.next, kind := .adjust, account := f.slot, amount := f.amount, order := none, item := none
              roll := none, frame := none, date := if s.clk.minutes = 0 then none else some s.clk.minutes }
          0 ≤ a.adjusted + f.amount + 140737488355328 → a.adjusted + f.amount ≤ 140737488355327 →
          Answers c s ((s.asked.modAccount f.slot fun x =>
              { x with adjusted := adjustedSum s.free (x.adjusted + f.amount) }).appendEntry false fun _ => entry)
            (okReply tag .adjust (.adjusted (total + f.amount) s.jnl.next))) ∧
  ∀ (slot rate : Nat) (a : Account) (s : State), s.account? slot = some a → rate ≤ a.reserved →
    a.charged + rate ≤ 140737488355327 →
    ∃ b, (s.chargeAccount slot rate).account? slot = some b ∧ b.committed = a.committed ∧
      b = { a with reserved := a.reserved - rate, charged := a.charged + rate }

/-- R143, R140: the refusals of JOURNAL_RELEASE, the entries removed from the head, and the room report when any was; a
waiting writer that the report has reached asks again, and goes on with a slot or goes on waiting. That the report is held in
a flag of the writer, and that a slot request without it does nothing, is log entry 22. R22, R140: the report reaches the
stations in HELD with JOURNAL_FULL whose order is ACTIVE and a paused link, and changes nothing else. R137: a slot taken is
reserved and held. -/
def Obligations.ReleaseMakesRoomForWriters : Prop :=
  (∀ (tag : Byte) (f : JournalReleaseReq) (s : State), Accepts tag s →
    let c := Instr.journalRelease tag (.fields f)
    if f.number < 1 ∨ 4294967295 < f.number then Refuses c s tag .journalRelease .badField .nothing
    else if s.jnl.next - 1 < f.number then Refuses c s tag .journalRelease .notFound .nothing
    else
      let rest := s.jnl.entries.dropWhile fun e => decide (e.seq ≤ f.number)
      let u := { s.asked with jnl := { s.jnl with entries := rest } }
      Answers c s (if rest.length < s.jnl.entries.length then u.roomReport else u)
        (okReply tag .journalRelease
          (.released (s.jnl.entries.length - rest.length) rest.length (rest.head?.map JournalEntry.seq)))) ∧
  (∀ (st : Station) (s : State), Does (.stationSlotRequest st) s
    (if (s.seq st).roomReport = true ∧ s.waitsForSlot st = true then
       let u := s.begun.modSeq st fun q => { q with roomReport := false }
       if 0 < s.jnl.free ∧ s.jnl.reserved < 4294967296 - s.jnl.next then (u.takeSlot st).claim false st else u
     else s.begun)) ∧
  (∀ s : State, Does .printerSlotRequest s
    (if s.prn.roomReport = true ∧ s.prn.paused = true then
       State.attempt { s.begun with prn := { s.prn with roomReport := false } }
     else s.begun)) ∧
  (∀ (st : Station) (s : State), s.waitsForSlot st = true ↔
    (s.seq st).mode = .held .journalFull ∧
      ∃ id o, (s.seq st).current = some id ∧ s.order? id = some o ∧ o.state = .active) ∧
  (∀ s : State,
    (∀ st, s.roomReport.seq st =
      if s.waitsForSlot st then { s.seq st with roomReport := true } else s.seq st) ∧
    s.roomReport.prn = (if s.prn.paused then { s.prn with roomReport := true } else s.prn) ∧
    { s.roomReport with seqs := s.seqs, prn := s.prn } = s) ∧
  ∀ (st : Station) (s : State), s.takeSlot st =
    { s with
      jnl := { s.jnl with reserved := s.jnl.reserved + 1 }
      seqs := s.seqs.modify (fun q =>
        { q with context := q.context.map fun c => { c with slotHeld := true } }) st }

/-- R145, R146: CLOCK_SET gives the clock its value and starts or stops the minute timer; a minute expiry counts one up to
the highest value, and nothing with the timer stopped. Every step keeps the clock within its range, with the timer running
exactly while it is not 0. That the expiry of a stopped minute timer does nothing is log entry 21. -/
def Obligations.DayClockCountsMinutes : Prop :=
  (∀ (tag : Byte) (f : ClockSetReq) (s : State), Accepts tag s →
    let c := Instr.clockSet tag (.fields f)
    if 52595999 < f.value then Refuses c s tag .clockSet .badField .nothing
    else Answers c s
      { s.asked with clk := { minutes := f.value, timer := if f.value = 0 then none else some 60000 } }
      (okReply tag .clockSet (.clockWas s.clk.minutes))) ∧
  (∀ s : State, ClockLawful s → Does .minuteTimerExpiry s
    (if s.clk.minutes = 0 then s.begun
     else { s.begun with clk := { minutes := min 52595999 (s.clk.minutes + 1), timer := some 60000 } })) ∧
  ∀ s t : State, ClockLawful s → step s = .next t → ClockLawful t

/-- R135, R136: every step keeps the journal's sequence numbers strictly rising and below the next one. R135, R137: every step
keeps filled and reserved slots together within the journal's 256. -/
def Obligations.JournalStaysOrdered : Prop :=
  (∀ s t : State, JournalOrdered s → step s = .next t → JournalOrdered t) ∧
  ∀ s t : State, JournalBounded s → step s = .next t → JournalBounded t

/-! ### Labels -/

/-- R150, R151, R152, R153: the conditions of LABEL_ROLL, LABEL_FRAME and LABEL_CANCEL in their order; the jobs queued for
the frames taken, in frame order while the queue has room; the unsent jobs of the roll removed, with QUEUED of a frame left
without a job back to NONE. A job queued makes its frame's label QUEUED where it was NONE. The waiting head is examined when it
is new or gone. R162: a head that can be composed is QUEUED and a sending attempt follows; any other goes to TEMPLATE_WAIT and
TEMPLATE_NEEDED is queued, once. -/
def Obligations.LabelRequestsChangeTheQueue : Prop :=
  (∀ (tag : Byte) (f : RollReq) (g : LabelFrameReq) (s : State), Accepts tag s →
    let c := Instr.labelRoll tag (.fields f)
    let d := Instr.labelFrame tag (.fields g)
    let e := Instr.labelCancel tag (.fields f)
    (if f.roll < 1 ∨ 9999 < f.roll then
       Refuses c s tag .labelRoll .badField .nothing ∧ Refuses e s tag .labelCancel .badField .nothing
     else match s.roll? f.roll with
       | none => Refuses c s tag .labelRoll .notFound .nothing ∧ Refuses e s tag .labelCancel .notFound .nothing
       | some r =>
         (if r.state ≠ .out then Refuses c s tag .labelRoll .state .nothing
          else
            let kept := s.rol.frames.filter fun x => x.roll == f.roll && (x.verdict == .keep && x.label == .none)
            let room := 96 - s.lbl.jobs.length
            let t := (kept.take room).foldl (fun t x => t.queueJob x true) s.asked
            Answers c s (if s.lbl.head? = none then t.examine else t)
              (okReply tag .labelRoll (.labelsQueued (min room kept.length) (kept.length - room)))) ∧
         (let gone (j : LabelJob) : Bool := j.roll == f.roll && !j.isSent
          let left := s.lbl.jobs.filter fun j => !gone j
          let frames := s.rol.frames.map fun x =>
            if x.roll = f.roll ∧ x.label = .queued ∧ (∀ j ∈ left, j.roll ≠ x.roll ∨ j.frame ≠ x.number) then
              { x with label := .none } else x
          let t := { s.asked with lbl := { s.lbl with jobs := left }, rol := { s.rol with frames := frames } }
          Answers e s (if s.lbl.head?.any gone then t.examine else t)
            (okReply tag .labelCancel (.labelsCancelled (s.lbl.jobs.filter gone).length
              (s.lbl.jobs.filter fun j => j.roll == f.roll && j.isSent).length)))) ∧
    (if g.roll < 1 ∨ 9999 < g.roll ∨ g.frame < 1 ∨ 250 < g.frame then
       Refuses d s tag .labelFrame .badField .nothing
     else match s.roll? g.roll, s.frame? g.roll g.frame with
       | some _, some x =>
         if x.verdict ≠ .keep then Refuses d s tag .labelFrame .state .nothing
         else if 96 ≤ s.lbl.jobs.length then Refuses d s tag .labelFrame .full .nothing
         else
           let t := s.asked.queueJob x g.charge
           Answers d s (if s.lbl.head? = none then t.examine else t)
             (okReply tag .labelFrame (.labelPosition (s.lbl.jobs.length + 1)))
       | _, _ => Refuses d s tag .labelFrame .notFound .nothing)) ∧
  (∀ (x : Frame) (charge : Bool) (o : Order) (s : State), s.orderOf x = some o →
    let job : LabelJob :=
      { roll := x.roll, frame := x.number, template := o.template, charge := charge, state := .queued, lines := none }
    let frames := s.rol.frames.map fun y =>
      if y.roll = x.roll ∧ y.number = x.number ∧ y.label = .none then { y with label := .queued } else y
    s.queueJob x charge =
      { s with lbl := { s.lbl with jobs := s.lbl.jobs ++ [job] }, rol := { s.rol with frames := frames } }) ∧
  (∀ s : State, (∀ j ∈ s.lbl.jobs, j.isSent = true) → s.examineHead = s ∧ s.examine = s) ∧
  ∀ (s : State) (before : List LabelJob) (j : LabelJob) (after : List LabelJob),
    s.lbl.jobs = before ++ j :: after → (∀ k ∈ before, k.isSent = true) → j.isSent = false →
    let head (x : JobState) := { s with lbl := { s.lbl with jobs := before ++ { j with state := x } :: after } }
    if j.lines ≠ none ∨ s.lbl.content? j.template ≠ none then
      s.examineHead = head .queued ∧ s.examine = (head .queued).attempt
    else
      let t := if j.state = .templateWait then s
        else (head .templateWait).raise (.templateNeeded j.template j.roll j.frame)
      s.examineHead = t ∧ s.examine = t

/-- R164: a composed label has four lines of at most 24 characters, whatever its frame and its template; a line of 24 or
fewer stands as composed and a longer one keeps its first 23 characters before a tilde. -/
def Obligations.ComposedLinesFit : Prop :=
  (∀ (s : State) (x : Frame) (lines : List (List Piece)), lines.length ≤ 4 →
    (s.composeLabel x lines).length = 4 ∧ ∀ l ∈ s.composeLabel x lines, l.length ≤ 24) ∧
  ∀ t : Text, (t.length ≤ 24 → cutLine t = t) ∧ (24 < t.length → cutLine t = t.take 23 ++ [0x7E])

/-- R156 to R160: the conditions and effects of the four template requests: a resident slot's content replaced or lock set
or cleared, the slot found for a new id, the one emptied; the slot loaded or locked goes to the front of the LRU order. The
slot found is the lowest-numbered empty one, and with none the unlocked one last in that order. That a template longer than
a frame is refused BAD_FIELD is log entry 29. -/
def Obligations.TemplateRequestsFollowTheStore : Prop :=
  (∀ (tag : Byte) (f : TemplateLoadReq) (s : State), Accepts tag s →
    let c := Instr.templateLoad tag (.fields f)
    if ¬ templateInRange f then Refuses c s tag .templateLoad .badField .nothing
    else match s.lbl.slotOf? f.template, s.lbl.findSlot? with
      | some i, _ =>
        let slots := s.lbl.slots.modify i fun x => { x with content := some f.lines }
        let lru := (i + 1) :: s.lbl.lru.filter fun n => n != i + 1
        Answers c s (State.examine { s.asked with lbl := { s.lbl with slots := slots, lru := lru } })
          (okReply tag .templateLoad (.templateSlot (i + 1) none))
      | none, some i =>
        let slots := s.lbl.slots.set i { tag := some f.template, locked := false, content := some f.lines }
        let lru := (i + 1) :: s.lbl.lru.filter fun n => n != i + 1
        Answers c s (State.examine { s.asked with lbl := { s.lbl with slots := slots, lru := lru } })
          (okReply tag .templateLoad (.templateSlot (i + 1) (s.lbl.tagAt i)))
      | none, none => Refuses c s tag .templateLoad .storeFull .nothing) ∧
  (∀ (tag : Byte) (f : TemplateReq) (s : State), Accepts tag s →
    let c := Instr.templateLock tag (.fields f)
    let d := Instr.templateUnlock tag (.fields f)
    let e := Instr.templateDrop tag (.fields f)
    if f.template < 1 ∨ 255 < f.template then
      Refuses c s tag .templateLock .badField .nothing ∧ Refuses d s tag .templateUnlock .badField .nothing ∧
      Refuses e s tag .templateDrop .badField .nothing
    else match s.lbl.slotOf? f.template with
      | some i =>
        let locked := s.lbl.slots.modify i fun x => { x with locked := true }
        let unlocked := s.lbl.slots.modify i fun x => { x with locked := false }
        let others := s.lbl.lru.filter fun n => n != i + 1
        let emptied := { s.asked with lbl := { s.lbl with slots := s.lbl.slots.set i emptySlot, lru := others } }
        Answers c s { s.asked with lbl := { s.lbl with slots := locked, lru := (i + 1) :: others } }
          (okReply tag .templateLock (.templateSlot (i + 1) none)) ∧
        (if s.lbl.content? f.template = none then Answers d s emptied (okReply tag .templateUnlock)
         else Answers d s { s.asked with lbl := { s.lbl with slots := unlocked } } (okReply tag .templateUnlock)) ∧
        (if s.lbl.unlockedAt i then Answers e s emptied.examine (okReply tag .templateDrop)
         else Refuses e s tag .templateDrop .busy .nothing)
      | none =>
        Refuses d s tag .templateUnlock .notResident .nothing ∧ Refuses e s tag .templateDrop .notResident .nothing ∧
        match s.lbl.findSlot? with
        | none => Refuses c s tag .templateLock .storeFull .nothing
        | some i =>
          let slots := s.lbl.slots.set i { tag := some f.template, locked := true, content := none }
          let lru := (i + 1) :: s.lbl.lru.filter fun n => n != i + 1
          let t := { s.asked with lbl := { s.lbl with slots := slots, lru := lru } }
          Answers c s (if s.lbl.tagAt i = none then t else t.examine)
            (okReply tag .templateLock (.templateSlot (i + 1) (s.lbl.tagAt i)))) ∧
  ∀ (l : Lbl) (i : Nat), l.findSlot? = some i →
    (∀ x ∈ l.slots, x.tag ≠ none) ∧ (∃ n before after, l.lru = before ++ n :: after ∧ i = n - 1 ∧
      l.unlockedAt i = true ∧ ∀ k ∈ after, l.unlockedAt (k - 1) = false) ∨
    (∃ x, l.slots[i]? = some x ∧ x.tag = none) ∧ ∀ k < i, ∀ x, l.slots[k]? = some x → x.tag ≠ none

/-! ### The printer -/

/-- R172, R182: the conditions of PRINTER_SET in their order, its reply the link state after it: OFF enabled goes to IDLE
and attempts to send, any other state attempts, disabling stops the timers and goes to OFF. PRINTER_STATUS reports the link
and in HELD, asked to, sends a Q. R173: a sending attempt sends the waiting head while the link is IDLE or SENDING, the window
has room and the head is QUEUED and can be composed, and pauses at a charged one with no journal slot. R163, R164, R174: a job
sent is SENT with its lines and the next sequence number and in flight, with a slot where it is charged; the timer starts
with the first. R169: each character sent has odd parity. -/
def Obligations.PrinterSetAndStatus : Prop :=
  (∀ (tag : Byte) (f : PrinterSetReq) (g : PrinterStatusReq) (s : State), Accepts tag s →
    let c := Instr.printerSet tag (.fields f)
    let d := Instr.printerStatus tag (.fields g)
    (if f.window < 1 ∨ 8 < f.window then Refuses c s tag .printerSet .badField .nothing
     else if f.enable = false ∧ s.prn.state = .sending then Refuses c s tag .printerSet .busy .nothing
     else
       let p := { s.prn with window := f.window, enabled := f.enable }
       let u := if f.enable then
           (if s.prn.state = .off then
              State.attempt { s.asked with prn := { p with state := .idle, paused := false, roomReport := false } }
            else State.attempt { s.asked with prn := p })
         else if s.prn.state = .off then { s.asked with prn := p }
         else
           { s.asked with prn := { p with state := .off, printerTimer := none, statusTimer := none, receiver := .hunting
                                          paused := false, roomReport := false } }
       Answers c s u (okReply tag .printerSet (.linkState u.prn.state))) ∧
    (let asks := g.ask && s.prn.state == .held
     let report := ReplyBody.printer s.prn.state s.prn.enabled s.prn.window s.prn.nextSeq s.prn.paused s.prn.inFlight asks
     let q := Output.printerFrame (onLine (askFrame s.prn.nextSeq))
     Answers d s (if asks then { s.asked with outputs := [q] } else s.asked) (okReply tag .printerStatus report))) ∧
  (∀ s : State,
    (s.prn.state ≠ .idle ∧ s.prn.state ≠ .sending ∨ s.prn.window ≤ s.prn.inFlight.length ∨
      (∀ j ∈ s.lbl.jobs, j.isSent = true) → s.attempt = s) ∧
    ∀ before j after, s.lbl.jobs = before ++ j :: after → (∀ k ∈ before, k.isSent = true) → j.isSent = false →
      let composable := j.lines ≠ none ∨ s.lbl.content? j.template ≠ none
      (j.state ≠ .queued ∨ ¬ composable → s.attempt = s) ∧
      (s.prn.state = .idle ∨ s.prn.state = .sending → s.prn.inFlight.length < s.prn.window → j.state = .queued →
        composable → s.attempt =
          if j.charge = true ∧ ¬ (0 < s.jnl.free ∧ s.jnl.reserved < 4294967296 - s.jnl.next) then
            { s with prn := { s.prn with paused := true } }
          else (s.sendJob j).attempt)) ∧
  (∀ (s : State) (before : List LabelJob) (j : LabelJob) (after : List LabelJob),
    s.lbl.jobs = before ++ j :: after → (∀ k ∈ before, k.isSent = true) → j.isSent = false →
    let n := s.prn.nextSeq
    let lines := s.linesOf j
    let lbl := { s.lbl with
      jobs := before ++ { j with state := .sent n, lines := some lines } :: after
      lru := match j.lines, s.lbl.slotOf? j.template with
        | none, some i => (i + 1) :: s.lbl.lru.filter fun k => k != i + 1
        | _, _ => s.lbl.lru }
    let jnl := { s.jnl with reserved := if j.charge then s.jnl.reserved + 1 else s.jnl.reserved }
    let u := State.examineHead { s with lbl := lbl, jnl := jnl }
    let sent : InFlight := { roll := j.roll, frame := j.frame, seq := n, slotHeld := j.charge }
    s.sendJob j = { u with
      prn := { u.prn with state := .sending, nextSeq := (n + 1) % 16, inFlight := s.prn.inFlight ++ [sent]
                          paused := false, roomReport := false
                          printerTimer := if s.prn.inFlight = [] then some 10000 else s.prn.printerTimer }
      outputs := u.outputs ++ [.printerFrame (onLine (printFrame n lines))] }) ∧
  (∀ (s : State) (j : LabelJob),
    (∀ l, j.lines = some l → s.linesOf j = l) ∧
    ∀ ls x, j.lines = none → s.lbl.content? j.template = some ls → s.frame? j.roll j.frame = some x →
      s.linesOf j = s.composeLabel x ls) ∧
  ∀ (b : Byte), ∃ p : Bool, onLine [b] = [{ data := b, parity := p }] ∧
    (((List.range 8).filter fun i => b.getLsbD i).length + p.toNat) % 2 = 1

/-- R170: the characters of a D, F or Y are taken one by one, and each frame they end is judged: a bad one is captured, a
good one acts; in OFF nothing is heard. So a frame that finds the receiver hunting acts, and one that finds it collecting,
with no check character due, has its STX end the partial frame as bad first. R175, R177 to R181: what D, F and Y and the
two timers then do in each link state. A D in SENDING that names the oldest job completes it and goes on sending, and any
other is OUT_OF_ORDER; an F is captured and the link is HELD; a Y ends HELD, ASKING and DOWN; the printer timer returns
every job at risk and asks; the status wait asks again. That the expiries of stopped timers do nothing is log entry 21.
R130, R167, R175: a completed job. R167, R176: returned jobs. R178: the three cases of the job that an F names. That the
head is examined with no sending attempt as jobs are returned is log entry 27. -/
def Obligations.PrinterEventsSettleJobs : Prop :=
  (∀ (q n : Fin 16) (code : PrinterCode) (s : State),
    let heard (cs : List Byte) : State :=
      let r := s.prn.receiver.takeAll (cs.map fun b => { char := b, parityError := false })
      if s.prn.state = .off then s.begun
      else r.2.foldl State.judged { s.begun with prn := { s.prn with receiver := r.1 } }
    let x := sequenceChar q
    Does (.printerDone q) s (heard [0x02, x, 0x44, 0x03, x ^^^ 0x44 ^^^ 0x03]) ∧
    Does (.printerReady q) s (heard [0x02, x, 0x59, 0x03, x ^^^ 0x59 ^^^ 0x03]) ∧
    (let k : Byte := match code with
       | .noStock => 0x4E
       | .jam => 0x4A
       | .head => 0x48
     let y := sequenceChar n
     Does (.printerFault q code n) s (heard [0x02, x, 0x46, k, y, 0x03, x ^^^ 0x46 ^^^ k ^^^ y ^^^ 0x03]))) ∧
  (∀ (q n : Fin 16) (code : PrinterCode) (s : State),
    (∀ cs, s.prn.receiver = .collecting cs → checkDue cs = false) →
    let hunting := { s.begun with prn := { s.prn with receiver := .hunting } }
    let h := match s.prn.receiver with
      | .hunting => hunting
      | .collecting _ => (hunting.capture .prn
        { kind := .badFrame, date := none, station := none, order := none, item := none, roll := none, frame := none
          further := false }).transmit
    (s.prn.state = .off →
      Does (.printerDone q) s s.begun ∧ Does (.printerFault q code n) s s.begun ∧ Does (.printerReady q) s s.begun) ∧
    (s.prn.state = .sending → ∀ x rest, s.prn.inFlight = x :: rest →
      (if x.seq = q then
         let t := h.completeOldest
         Does (.printerDone q) s (State.attempt { t with prn :=
           if rest = [] then { t.prn with state := .idle, printerTimer := none }
           else { t.prn with printerTimer := some 10000 } })
       else Does (.printerDone q) s
         ((h.capture .prn (jobCapture .outOfOrder (some x))).returnAll).toHeld)) ∧
    (s.prn.state = .idle ∨ s.prn.state = .held ∨ s.prn.state = .asking ∨ s.prn.state = .down →
      Does (.printerDone q) s h) ∧
    (s.prn.state ≠ .off →
      let named := s.prn.inFlight.find? fun x => x.seq == n.val
      let kind := match code with
        | .noStock => FaultKind.noStock
        | .jam => .printerJam
        | .head => .head
      let u := h.capture .prn (jobCapture kind named)
      Does (.printerFault q code n) s
        (if s.prn.state = .sending then (u.settleJobs n).toHeld else u.toHeld)) ∧
    (s.prn.state = .held ∨ s.prn.state = .asking ∨ s.prn.state = .down →
      Does (.printerReady q) s
        (State.attempt { h with prn := { h.prn with state := .idle, statusTimer := none } })) ∧
    (s.prn.state = .idle ∨ s.prn.state = .sending → Does (.printerReady q) s h)) ∧
  (∀ s : State,
    Does .printerTimerExpiry s
      (if s.prn.state = .sending ∧ s.prn.printerTimer ≠ none then
         let u := s.begun.capture .prn (jobCapture .printerTimeout s.prn.inFlight.head?)
         let v := (u.markRisk s.prn.inFlight).returnAll
         { v with
           prn := { v.prn with state := .asking, printerTimer := none, statusTimer := some 10000, paused := false
                               roomReport := false }
           outputs := v.outputs ++ [.printerFrame (onLine (askFrame v.prn.nextSeq))] }
       else s.begun) ∧
    Does .statusWaitExpiry s
      (if (s.prn.state = .asking ∨ s.prn.state = .down) ∧ s.prn.statusTimer ≠ none then
         { s.begun with
           prn := { s.prn with state := .down, statusTimer := some 10000, paused := false, roomReport := false }
           outputs := [.printerFrame (onLine (askFrame s.prn.nextSeq))] }
       else s.begun)) ∧
  (∀ (s : State) (x : InFlight) (rest : List InFlight), s.prn.inFlight = x :: rest →
    let u : State := { s with
      prn := { s.prn with inFlight := rest }
      rol := { s.rol with frames := s.rol.frames.map fun (y : Frame) =>
        if y.roll = x.roll ∧ y.number = x.frame then { y with label := .printed } else y } }
    let v := if u.labelled x.roll = true ∧ s.labelled x.roll = false then u.raise (.rollLabelled x.roll) else u
    let job := s.lbl.jobs.find? fun j => j.state == .sent x.seq
    let w := if job.any LabelJob.charge then v.postMount x.roll x.frame else v
    s.completeOldest =
      { w with lbl := { w.lbl with jobs := w.lbl.jobs.filter fun j => !(j.state == JobState.sent x.seq) } }) ∧
  (∀ (s : State) (roll frame : Nat) (x : Frame) (e : Exposure) (o : Order) (a : Account),
    s.frame? roll frame = some x → x.exposure = some e → s.order? e.order = some o → s.account? o.account = some a →
    let rate := (s.acc.tariffs.get a.cls).mount
    a.mounted + rate ≤ 140737488355327 →
    s.postMount roll frame =
      (s.modAccount o.account fun x => { x with mounted := moneySum s.free (x.mounted + rate) }).appendEntry true fun n =>
        { seq := n, kind := .mount, account := o.account, amount := rate, order := some e.order, item := some e.item
          roll := some roll, frame := some frame, date := s.stamp }) ∧
  (∀ s : State,
    let xs := s.prn.inFlight
    let handed := (xs.filter InFlight.slotHeld).foldl (fun t _ =>
        State.roomReport { t with jnl := { t.jnl with reserved := t.jnl.reserved - 1 } })
      { s with prn := { s.prn with inFlight := [] } }
    let returned (j : LabelJob) : LabelJob := match j.state with
      | .sent n => if xs.any fun x => x.seq == n then { j with state := .queued } else j
      | .templateWait => if xs = [] then j else { j with state := .queued }
      | .queued => j
    s.returnAll =
      State.examineHead { handed with lbl := { handed.lbl with jobs := handed.lbl.jobs.map returned } }) ∧
  (∀ (s : State) (n : Nat) (k : Nat),
    let complete (k : Nat) (t : State) : State := (List.replicate k ()).foldl (fun t _ => t.completeOldest) t
    (s.prn.inFlight.findIdx? (fun x => x.seq == n) = some k → s.settleJobs n = (complete k s).returnAll) ∧
    (s.prn.inFlight.findIdx? (fun x => x.seq == n) = none →
      s.settleJobs n = if n = s.prn.nextSeq then complete s.prn.inFlight.length s
        else (s.returnAll).markRisk s.prn.inFlight)) ∧
  ∀ (s : State) (xs : List InFlight), s.markRisk xs =
    { s with rol := { s.rol with frames := s.rol.frames.map fun f =>
      if ∃ x ∈ xs, x.roll = f.roll ∧ x.frame = f.number then { f with duplicateRisk := true } else f } }

/-! ### Faults and resets -/

/-- R186: capturing a fault fills an empty capture with it and the date, locks it and queues FAULT; it sets the
further-faults flag of a locked one and changes nothing else of it. R184: a unit's capture is its own. -/
def Obligations.FirstFaultFillsTheCapture : Prop :=
  (∀ (u : Unit5) (c : Capture) (s : State), s.capture u c = match s.flt.get u with
    | none =>
      State.raise (.fault u c.kind) { s with flt := s.flt.set u (some { c with date := s.stamp, further := false }) }
    | some old => { s with flt := s.flt.set u (some { old with further := true }) }) ∧
  ∀ (u v : Unit5) (c : Option Capture) (x : Flt), (x.set u c).get v = if v = u then c else x.get v

/-- R170: characters of the printer are taken one by one, in OFF none; each bad frame they end is captured, and a good one
they complete acts as its own command does (R177, R178, R179); a free transmitter chooses at each (R199). R189, R192:
FAULT_CLEAR of a locked capture empties it, and a station recovers. R190, R191: a station in FAULT with its move unfinished
starts a recovery pull, and one with its move finished goes on by its cause; a completed pull after LEADER_JAM goes on with
the leader, and any other leaves FAULT with the order HELD and the item settled. -/
def Obligations.FaultsAreCapturedAndCleared : Prop :=
  (∀ (cs : List PrinterChar) (s : State),
    let r := (s.prn.receiver.takeAll cs).1
    let gots := (s.prn.receiver.takeAll cs).2
    if s.prn.state = .off then Does (.badFrame cs) s s.begun
    else Does (.badFrame cs) s (gots.foldl State.judged { s.begun with prn := { s.prn with receiver := r } })) ∧
  (∀ (s : State) (q m : Nat) (code : PrinterCode),
    s.judged .nothing = s ∧
    s.judged .bad = (s.capture .prn
      { kind := .badFrame, date := none, station := none, order := none, item := none, roll := none, frame := none
        further := false }).transmit ∧
    s.judged (.good (.done q)) = (s.printerDone q).transmit ∧
    s.judged (.good (.fault q code m)) = (s.printerFault code m).transmit ∧
    s.judged (.good (.ready q)) = s.printerReady.transmit) ∧
  (∀ (tag : Byte) (f : UnitReq) (s : State), Accepts tag s →
    let c := Instr.faultClear tag (.fields f)
    match unitOf? f.unit with
    | none => Refuses c s tag .faultClear .badField .nothing
    | some u =>
      let t := { s.asked with flt := s.flt.set u none }
      if s.flt.get u = none then Refuses c s tag .faultClear .state .nothing
      else match u with
        | .stationA => Answers c s (t.recover .a) (okReply tag .faultClear)
        | .stationB => Answers c s (t.recover .b) (okReply tag .faultClear)
        | .stationD => Answers c s (t.recover .d) (okReply tag .faultClear)
        | .gen | .prn => Answers c s t (okReply tag .faultClear)) ∧
  ∀ (st : Station) (s : State),
    let left (t : State) : State :=
      let held := match (t.seq st).current with
        | some id => t.holdIfActive id .fault
        | none => t
      ((held.settle st).modSeq st fun q => { q with current := none, faultMemory := none }).rest st
    let free := s.modSeq st fun q => { q with faultMemory := none }
    ((s.seq st).mode ≠ .fault → s.recover st = s) ∧
    (∀ x, (s.seq st).mode = .fault → (s.seq st).faultMemory = some x →
      (x.unfinished = true → s.recover st = (s.startMove st .recovery).filmEndIfSeen st) ∧
      (x.unfinished = false → x.cause = .rewindTimeout → s.recover st =
        ((free.setMode st .ending).modDrive st fun d =>
          { d with move := some .rewind, motor := .reverse, rewindTimer := some 60000 })) ∧
      (x.unfinished = false → x.cause = .misfireRepeat → s.recover st = left s) ∧
      (x.cause = .leaderJam → s.moveOver st .recovery = (free.setMode st .loading).moveOver st .leader) ∧
      (x.cause ≠ .leaderJam → s.moveOver st .recovery = left s))

/-- The first-fault rule (R186, R189): no command but FAULT_CLEAR for its unit, or a cold reset, changes a locked capture,
except that its further-faults flag may become set. (HOST_BAD_FRAME brings about the requests whose frames its characters
complete.) -/
def Obligations.FirstFaultIsKept : Prop :=
  ∀ (c : Instr) (s t : State) (u : Unit5) (x : Capture), s.flt.get u = some x →
    (∀ r ∈ broughtBy c s, ∀ tag f, r = .faultClear tag (.fields f) → unitOf? f.unit ≠ some u) →
    isColdReset c = false →
    exec c s = .next t →
    t.flt.get u = some x ∨ t.flt.get u = some { x with further := true }

/-- R203, R204: a reset by its pins completes in every state and a stand reset is answered in every state. R19, R50, R91, R98,
R115, R133, R144, R150, R168, R183, R193: where retention held, and at a stand reset, `kept` says what stands after it: orders
but for ACTIVE ones, settings, stocks, accounts but for reserved amounts, journal but for its reservations, templates and
captures are as they were; no station has an item and no drive moves; a live roll is INTERRUPTED with its former state; the
heat account is full; a SENT job is gone and its frame UNCERTAIN; the printer link is IDLE or OFF, and an IDLE one sends. The
clock is as it was: RESET counts no minutes while the part is down (log entry 24). Where retention was lost every block is at
its cold value. The start-up notices join behind START in some order (log entry 7), JOURNAL_HIGH with the reservations after the
printer link has sent (log entry 7); after a reset by its pins START is at the transmitter by the end of the event (log entry
4). -/
def Obligations.ResetsKeepOrClear : Prop :=
  let active (s : State) := s.ord.orders.filter fun o => o.state == .active
  let kept (door : Station → Door) (ready : Bool) (s t : State) : Prop :=
    let mode (st : Station) : Mode := match s.rollAt st with
      | none => .unloaded
      | some r => if r.state = .full then .awaitUnload else .interrupted
    let frame (x : Frame) : Frame :=
      if ∃ j ∈ s.lbl.jobs, j.isSent = true ∧ j.roll = x.roll ∧ j.frame = x.number then
        { x with uncertain := true
                 label := if x.label = .queued ∧ (∀ j ∈ s.lbl.jobs, j.roll = x.roll → j.frame = x.number →
                     j.isSent = true) then .none else x.label }
      else x
    let roll (r : Roll) : Roll := match r.state with
      | .loading => { r with state := .interrupted .loading }
      | .opened => { r with state := .interrupted .opened }
      | .rewinding => { r with state := .interrupted .rewinding }
      | .full | .out | .interrupted _ => r
    let prn : Prn :=
      { state := if s.prn.enabled then .idle else .off, enabled := s.prn.enabled, window := s.prn.window, inFlight := []
        nextSeq := 0, paused := false, roomReport := false, printerTimer := none, statusTimer := none
        receiver := .hunting }
    let seq (st : Station) : Sequencer :=
      { settings := (s.seq st).settings, mode := mode st, current := none, context := none, footPending := false
        faultMemory := none, popWait := .none, repeatMisfire := false, roomReport := false }
    let drive (st : Station) : Drive :=
      { move := none, pulses := 0, leader := 0, endSeen := false, advanceTimer := none, rewindTimer := none
        motor := .stopped, door := door st }
    let order (o : Order) : Order := if o.state = .active then { o with state := .held .reset } else o
    let job (j : LabelJob) : LabelJob := { j with state := .queued }
    let u : State := { s with
      ord := { s.ord with orders := s.ord.orders.map order }
      seqs := { a := seq .a, b := seq .b, d := seq .d }
      drives := { a := drive .a, b := drive .b, d := drive .d }
      gen :=
        { mode := .off, output := .safe, heat := 512, requests := [], chosen := none, holder := none, lastGrant := []
          chargeTimer := none, windowTimer := none, idleTimer := none, coolingTimer := some 125, readyInput := ready }
      rol := { s.rol with rolls := s.rol.rolls.map roll, frames := s.rol.frames.map frame, reserved := 0 }
      acc := { s.acc with accounts := s.acc.accounts.map fun a => { a with reserved := 0 } }
      jnl := { s.jnl with reserved := 0 }
      lbl := { s.lbl with jobs := (s.lbl.jobs.filter fun j => !j.isSent).map job }
      prn := prn }
    t.ord = u.ord ∧ t.seqs = u.seqs ∧ t.drives = u.drives ∧ t.gen = u.gen ∧ t.rol = u.rol ∧ t.acc = u.acc ∧
    t.jnl = u.examine.jnl ∧ t.lbl = u.examine.lbl ∧ t.prn = u.examine.prn ∧ t.clk = s.clk ∧ t.flt = s.flt
  let startNotices (s t : State) : List Notice :=
    ([.a, .b, .d] : List Station).flatMap (fun st =>
      ((active s).filter fun o => o.bound == some st).map fun o => .orderHeld o.id .reset) ++
    [.stationState .a (t.seq .a).mode none, .stationState .b (t.seq .b).mode none, .stationState .d (t.seq .d).mode none,
     .generatorState .off 512] ++
    (if 192 ≤ s.jnl.entries.length then
       [.journalHigh s.jnl.entries.length t.jnl.reserved ((s.jnl.entries.head?.map JournalEntry.seq).getD 0)] else [])
  let needed (t : State) : List Notice := match t.lbl.jobs.find? fun j => !j.isSent with
    | some j => if j.state = .templateWait then [.templateNeeded j.template j.roll j.frame] else []
    | none => []
  (∀ (pins : ResetPins) (s : State), ∃ t, exec (.reset pins) s = .next t ∧
    let kind : ResetKind := if pins.retentionHeld then .warm else .cold
    let rate : LineRate := match pins.strap1, pins.strap2 with
      | false, false => .r9600
      | false, true => .r19200
      | true, false => .r38400
      | true, true => .r57600
    let door : Station → Door
      | .a => pins.doorA
      | .b => pins.doorB
      | .d => pins.doorD
    t.lnk.replies = [] ∧ t.lnk.receiver = .hunting ∧ t.lnk.gapTimer = none ∧ t.lnk.requestOverflow = false ∧
    t.lnk.rate = rate ∧ t.lnk.lastReset = kind ∧ t.lnk.transmitter = some (.notice (.start kind 0)) ∧
    if pins.retentionHeld then
      kept door pins.readyInput s t ∧ t.lnk.noticeOverflow = true ∧
      ((active s).length ≤ 3 → List.Perm t.lnk.notices (startNotices s t ++ needed t))
    else
      let cold := State.reset
      t.ord = cold.ord ∧ t.seqs = cold.seqs ∧ (∀ st, t.drive st = { cold.drive st with door := door st }) ∧
      t.gen = { cold.gen with readyInput := pins.readyInput } ∧ t.rol = cold.rol ∧ t.acc = cold.acc ∧
      t.jnl = cold.jnl ∧ t.clk = cold.clk ∧ t.lbl = cold.lbl ∧ t.prn = cold.prn ∧ t.flt = cold.flt ∧
      t.lnk.noticeOverflow = false ∧
      List.Perm t.lnk.notices [.stationState .a .unloaded none, .stationState .b .unloaded none,
        .stationState .d .unloaded none, .generatorState .off 0]) ∧
  ∀ (tag : Byte) (s : State), Accepts tag s →
    ∃ t, Answers (.standReset tag (.fields ())) s t (okReply tag .standReset) ∧
      kept (fun st => (s.drive st).door) s.gen.readyInput s t ∧
      let carried := s.lnk.notices.take 31
      { t.lnk with notices := s.lnk.notices, noticeOverflow := s.lnk.noticeOverflow } =
        { s.asked.lnk with lastReset := .stand } ∧
      (32 ≤ s.lnk.notices.length → t.lnk.noticeOverflow = true) ∧
      ∃ more, t.lnk.notices = .start .stand carried.length :: carried ++ more ∧
        ((active s).length ≤ 3 → s.lnk.notices.length ≤ 22 →
          t.lnk.noticeOverflow = s.lnk.noticeOverflow ∧ List.Perm more (startNotices s t ++ needed t))

/-- The state after reset meets the laws that every step keeps, is at rest, and has nothing in it, each block at the cold
value that its rule gives: R1, R19, R20, R50, R91, R94, R98, R103, R118, R121, R144, R145, R149, R156, R171, R184, R203. That
the line rate is 9600 bit/s, the doors closed and the ready input low is log entry 2. -/
def Obligations.ResetStateIsLawful : Prop :=
  let s := State.reset
  let rates : Rates := { centre := 0, bracket := 0, copy := 0, mount := 0 }
  LinkBounded s ∧ JournalOrdered s ∧ ClockLawful s ∧ OrdersDistinct s ∧ FilmLawful s ∧ JournalBounded s ∧
  s.ord = { orders := [], arrival := 1 } ∧
  s.rol = { stocks := [], rolls := [], frames := [], reserved := 0, lastRoll := 0 } ∧
  s.acc = { tariffs := { class1 := rates, class2 := rates, class3 := rates, class4 := rates }, accounts := [] } ∧
  s.jnl = { entries := [], reserved := 0, next := 1 } ∧ s.clk = { minutes := 0, timer := none } ∧
  s.lbl = { jobs := [], slots := List.replicate 8 { tag := none, locked := false, content := none }, lru := [] } ∧
  s.gen =
    { mode := .off, output := .safe, heat := 0, requests := [], chosen := none, holder := none, lastGrant := []
      chargeTimer := none, windowTimer := none, idleTimer := none, coolingTimer := some 125, readyInput := false } ∧
  s.prn =
    { state := .off, enabled := false, window := 2, inFlight := [], nextSeq := 0, paused := false, roomReport := false
      printerTimer := none, statusTimer := none, receiver := .hunting } ∧
  s.lnk.receiver = .hunting ∧ s.lnk.gapTimer = none ∧ s.lnk.replies = [] ∧ s.lnk.noticeOverflow = false ∧
  s.lnk.requestOverflow = false ∧ s.lnk.rate = .r9600 ∧ s.lnk.lastReset = .cold ∧ s.pending = [] ∧
  (∀ u, s.flt.get u = none) ∧
  ∀ st,
    s.seq st =
      { settings :=
          { back := .cassette, calibration := 0, magnification := 0, filter1 := 0, filter2 := 0, filter3 := 0
            filter4 := 0, rounding := .nearestEven, separator := false, footEnabled := false, footEdge := .press
            early := false }
        mode := .unloaded, current := none, context := none, footPending := false, faultMemory := none
        popWait := .none, repeatMisfire := false, roomReport := false } ∧
    s.drive st =
      { move := none, pulses := 0, leader := 0, endSeen := false, advanceTimer := none, rewindTimer := none
        motor := .stopped, door := .closed }
end

