-- ==== Sys2Proof/Laws/State.lean ====
section
/-! SUPPORT. The fields of the state after each named update: one lemma per field per update. -/

namespace Sys2Proof.Machine

section

variable (s : State)

@[simp] theorem State.modLnk_lnk (f : Lnk → Lnk) : (s.modLnk f).lnk = f s.lnk := rfl
@[simp] theorem State.modLnk_ord (f : Lnk → Lnk) : (s.modLnk f).ord = s.ord := rfl
@[simp] theorem State.modLnk_seqs (f : Lnk → Lnk) : (s.modLnk f).seqs = s.seqs := rfl
@[simp] theorem State.modLnk_drives (f : Lnk → Lnk) : (s.modLnk f).drives = s.drives := rfl
@[simp] theorem State.modLnk_gen (f : Lnk → Lnk) : (s.modLnk f).gen = s.gen := rfl
@[simp] theorem State.modLnk_rol (f : Lnk → Lnk) : (s.modLnk f).rol = s.rol := rfl
@[simp] theorem State.modLnk_acc (f : Lnk → Lnk) : (s.modLnk f).acc = s.acc := rfl
@[simp] theorem State.modLnk_jnl (f : Lnk → Lnk) : (s.modLnk f).jnl = s.jnl := rfl
@[simp] theorem State.modLnk_clk (f : Lnk → Lnk) : (s.modLnk f).clk = s.clk := rfl
@[simp] theorem State.modLnk_lbl (f : Lnk → Lnk) : (s.modLnk f).lbl = s.lbl := rfl
@[simp] theorem State.modLnk_prn (f : Lnk → Lnk) : (s.modLnk f).prn = s.prn := rfl
@[simp] theorem State.modLnk_flt (f : Lnk → Lnk) : (s.modLnk f).flt = s.flt := rfl
@[simp] theorem State.modLnk_outputs (f : Lnk → Lnk) : (s.modLnk f).outputs = s.outputs := rfl
@[simp] theorem State.modLnk_free (f : Lnk → Lnk) : (s.modLnk f).free = s.free := rfl
@[simp] theorem State.modLnk_pending (f : Lnk → Lnk) : (s.modLnk f).pending = s.pending := rfl
@[simp] theorem State.modLnk_seq (f : Lnk → Lnk) (st : Station) : (s.modLnk f).seq st = s.seq st := rfl
@[simp] theorem State.modLnk_drive (f : Lnk → Lnk) (st : Station) : (s.modLnk f).drive st = s.drive st := rfl

@[simp] theorem State.modOrd_lnk (f : Ord → Ord) : (s.modOrd f).lnk = s.lnk := rfl
@[simp] theorem State.modOrd_ord (f : Ord → Ord) : (s.modOrd f).ord = f s.ord := rfl
@[simp] theorem State.modOrd_seqs (f : Ord → Ord) : (s.modOrd f).seqs = s.seqs := rfl
@[simp] theorem State.modOrd_drives (f : Ord → Ord) : (s.modOrd f).drives = s.drives := rfl
@[simp] theorem State.modOrd_gen (f : Ord → Ord) : (s.modOrd f).gen = s.gen := rfl
@[simp] theorem State.modOrd_rol (f : Ord → Ord) : (s.modOrd f).rol = s.rol := rfl
@[simp] theorem State.modOrd_acc (f : Ord → Ord) : (s.modOrd f).acc = s.acc := rfl
@[simp] theorem State.modOrd_jnl (f : Ord → Ord) : (s.modOrd f).jnl = s.jnl := rfl
@[simp] theorem State.modOrd_clk (f : Ord → Ord) : (s.modOrd f).clk = s.clk := rfl
@[simp] theorem State.modOrd_lbl (f : Ord → Ord) : (s.modOrd f).lbl = s.lbl := rfl
@[simp] theorem State.modOrd_prn (f : Ord → Ord) : (s.modOrd f).prn = s.prn := rfl
@[simp] theorem State.modOrd_flt (f : Ord → Ord) : (s.modOrd f).flt = s.flt := rfl
@[simp] theorem State.modOrd_outputs (f : Ord → Ord) : (s.modOrd f).outputs = s.outputs := rfl
@[simp] theorem State.modOrd_free (f : Ord → Ord) : (s.modOrd f).free = s.free := rfl
@[simp] theorem State.modOrd_pending (f : Ord → Ord) : (s.modOrd f).pending = s.pending := rfl
@[simp] theorem State.modOrd_seq (f : Ord → Ord) (st : Station) : (s.modOrd f).seq st = s.seq st := rfl
@[simp] theorem State.modOrd_drive (f : Ord → Ord) (st : Station) : (s.modOrd f).drive st = s.drive st := rfl

@[simp] theorem State.modGen_lnk (f : Gen → Gen) : (s.modGen f).lnk = s.lnk := rfl
@[simp] theorem State.modGen_ord (f : Gen → Gen) : (s.modGen f).ord = s.ord := rfl
@[simp] theorem State.modGen_seqs (f : Gen → Gen) : (s.modGen f).seqs = s.seqs := rfl
@[simp] theorem State.modGen_drives (f : Gen → Gen) : (s.modGen f).drives = s.drives := rfl
@[simp] theorem State.modGen_gen (f : Gen → Gen) : (s.modGen f).gen = f s.gen := rfl
@[simp] theorem State.modGen_rol (f : Gen → Gen) : (s.modGen f).rol = s.rol := rfl
@[simp] theorem State.modGen_acc (f : Gen → Gen) : (s.modGen f).acc = s.acc := rfl
@[simp] theorem State.modGen_jnl (f : Gen → Gen) : (s.modGen f).jnl = s.jnl := rfl
@[simp] theorem State.modGen_clk (f : Gen → Gen) : (s.modGen f).clk = s.clk := rfl
@[simp] theorem State.modGen_lbl (f : Gen → Gen) : (s.modGen f).lbl = s.lbl := rfl
@[simp] theorem State.modGen_prn (f : Gen → Gen) : (s.modGen f).prn = s.prn := rfl
@[simp] theorem State.modGen_flt (f : Gen → Gen) : (s.modGen f).flt = s.flt := rfl
@[simp] theorem State.modGen_outputs (f : Gen → Gen) : (s.modGen f).outputs = s.outputs := rfl
@[simp] theorem State.modGen_free (f : Gen → Gen) : (s.modGen f).free = s.free := rfl
@[simp] theorem State.modGen_pending (f : Gen → Gen) : (s.modGen f).pending = s.pending := rfl
@[simp] theorem State.modGen_seq (f : Gen → Gen) (st : Station) : (s.modGen f).seq st = s.seq st := rfl
@[simp] theorem State.modGen_drive (f : Gen → Gen) (st : Station) : (s.modGen f).drive st = s.drive st := rfl

@[simp] theorem State.modRol_lnk (f : Rol → Rol) : (s.modRol f).lnk = s.lnk := rfl
@[simp] theorem State.modRol_ord (f : Rol → Rol) : (s.modRol f).ord = s.ord := rfl
@[simp] theorem State.modRol_seqs (f : Rol → Rol) : (s.modRol f).seqs = s.seqs := rfl
@[simp] theorem State.modRol_drives (f : Rol → Rol) : (s.modRol f).drives = s.drives := rfl
@[simp] theorem State.modRol_gen (f : Rol → Rol) : (s.modRol f).gen = s.gen := rfl
@[simp] theorem State.modRol_rol (f : Rol → Rol) : (s.modRol f).rol = f s.rol := rfl
@[simp] theorem State.modRol_acc (f : Rol → Rol) : (s.modRol f).acc = s.acc := rfl
@[simp] theorem State.modRol_jnl (f : Rol → Rol) : (s.modRol f).jnl = s.jnl := rfl
@[simp] theorem State.modRol_clk (f : Rol → Rol) : (s.modRol f).clk = s.clk := rfl
@[simp] theorem State.modRol_lbl (f : Rol → Rol) : (s.modRol f).lbl = s.lbl := rfl
@[simp] theorem State.modRol_prn (f : Rol → Rol) : (s.modRol f).prn = s.prn := rfl
@[simp] theorem State.modRol_flt (f : Rol → Rol) : (s.modRol f).flt = s.flt := rfl
@[simp] theorem State.modRol_outputs (f : Rol → Rol) : (s.modRol f).outputs = s.outputs := rfl
@[simp] theorem State.modRol_free (f : Rol → Rol) : (s.modRol f).free = s.free := rfl
@[simp] theorem State.modRol_pending (f : Rol → Rol) : (s.modRol f).pending = s.pending := rfl
@[simp] theorem State.modRol_seq (f : Rol → Rol) (st : Station) : (s.modRol f).seq st = s.seq st := rfl
@[simp] theorem State.modRol_drive (f : Rol → Rol) (st : Station) : (s.modRol f).drive st = s.drive st := rfl

@[simp] theorem State.modAcc_lnk (f : Acc → Acc) : (s.modAcc f).lnk = s.lnk := rfl
@[simp] theorem State.modAcc_ord (f : Acc → Acc) : (s.modAcc f).ord = s.ord := rfl
@[simp] theorem State.modAcc_seqs (f : Acc → Acc) : (s.modAcc f).seqs = s.seqs := rfl
@[simp] theorem State.modAcc_drives (f : Acc → Acc) : (s.modAcc f).drives = s.drives := rfl
@[simp] theorem State.modAcc_gen (f : Acc → Acc) : (s.modAcc f).gen = s.gen := rfl
@[simp] theorem State.modAcc_rol (f : Acc → Acc) : (s.modAcc f).rol = s.rol := rfl
@[simp] theorem State.modAcc_acc (f : Acc → Acc) : (s.modAcc f).acc = f s.acc := rfl
@[simp] theorem State.modAcc_jnl (f : Acc → Acc) : (s.modAcc f).jnl = s.jnl := rfl
@[simp] theorem State.modAcc_clk (f : Acc → Acc) : (s.modAcc f).clk = s.clk := rfl
@[simp] theorem State.modAcc_lbl (f : Acc → Acc) : (s.modAcc f).lbl = s.lbl := rfl
@[simp] theorem State.modAcc_prn (f : Acc → Acc) : (s.modAcc f).prn = s.prn := rfl
@[simp] theorem State.modAcc_flt (f : Acc → Acc) : (s.modAcc f).flt = s.flt := rfl
@[simp] theorem State.modAcc_outputs (f : Acc → Acc) : (s.modAcc f).outputs = s.outputs := rfl
@[simp] theorem State.modAcc_free (f : Acc → Acc) : (s.modAcc f).free = s.free := rfl
@[simp] theorem State.modAcc_pending (f : Acc → Acc) : (s.modAcc f).pending = s.pending := rfl
@[simp] theorem State.modAcc_seq (f : Acc → Acc) (st : Station) : (s.modAcc f).seq st = s.seq st := rfl
@[simp] theorem State.modAcc_drive (f : Acc → Acc) (st : Station) : (s.modAcc f).drive st = s.drive st := rfl

@[simp] theorem State.modJnl_lnk (f : Jnl → Jnl) : (s.modJnl f).lnk = s.lnk := rfl
@[simp] theorem State.modJnl_ord (f : Jnl → Jnl) : (s.modJnl f).ord = s.ord := rfl
@[simp] theorem State.modJnl_seqs (f : Jnl → Jnl) : (s.modJnl f).seqs = s.seqs := rfl
@[simp] theorem State.modJnl_drives (f : Jnl → Jnl) : (s.modJnl f).drives = s.drives := rfl
@[simp] theorem State.modJnl_gen (f : Jnl → Jnl) : (s.modJnl f).gen = s.gen := rfl
@[simp] theorem State.modJnl_rol (f : Jnl → Jnl) : (s.modJnl f).rol = s.rol := rfl
@[simp] theorem State.modJnl_acc (f : Jnl → Jnl) : (s.modJnl f).acc = s.acc := rfl
@[simp] theorem State.modJnl_jnl (f : Jnl → Jnl) : (s.modJnl f).jnl = f s.jnl := rfl
@[simp] theorem State.modJnl_clk (f : Jnl → Jnl) : (s.modJnl f).clk = s.clk := rfl
@[simp] theorem State.modJnl_lbl (f : Jnl → Jnl) : (s.modJnl f).lbl = s.lbl := rfl
@[simp] theorem State.modJnl_prn (f : Jnl → Jnl) : (s.modJnl f).prn = s.prn := rfl
@[simp] theorem State.modJnl_flt (f : Jnl → Jnl) : (s.modJnl f).flt = s.flt := rfl
@[simp] theorem State.modJnl_outputs (f : Jnl → Jnl) : (s.modJnl f).outputs = s.outputs := rfl
@[simp] theorem State.modJnl_free (f : Jnl → Jnl) : (s.modJnl f).free = s.free := rfl
@[simp] theorem State.modJnl_pending (f : Jnl → Jnl) : (s.modJnl f).pending = s.pending := rfl
@[simp] theorem State.modJnl_seq (f : Jnl → Jnl) (st : Station) : (s.modJnl f).seq st = s.seq st := rfl
@[simp] theorem State.modJnl_drive (f : Jnl → Jnl) (st : Station) : (s.modJnl f).drive st = s.drive st := rfl

@[simp] theorem State.modClk_lnk (f : Clk → Clk) : (s.modClk f).lnk = s.lnk := rfl
@[simp] theorem State.modClk_ord (f : Clk → Clk) : (s.modClk f).ord = s.ord := rfl
@[simp] theorem State.modClk_seqs (f : Clk → Clk) : (s.modClk f).seqs = s.seqs := rfl
@[simp] theorem State.modClk_drives (f : Clk → Clk) : (s.modClk f).drives = s.drives := rfl
@[simp] theorem State.modClk_gen (f : Clk → Clk) : (s.modClk f).gen = s.gen := rfl
@[simp] theorem State.modClk_rol (f : Clk → Clk) : (s.modClk f).rol = s.rol := rfl
@[simp] theorem State.modClk_acc (f : Clk → Clk) : (s.modClk f).acc = s.acc := rfl
@[simp] theorem State.modClk_jnl (f : Clk → Clk) : (s.modClk f).jnl = s.jnl := rfl
@[simp] theorem State.modClk_clk (f : Clk → Clk) : (s.modClk f).clk = f s.clk := rfl
@[simp] theorem State.modClk_lbl (f : Clk → Clk) : (s.modClk f).lbl = s.lbl := rfl
@[simp] theorem State.modClk_prn (f : Clk → Clk) : (s.modClk f).prn = s.prn := rfl
@[simp] theorem State.modClk_flt (f : Clk → Clk) : (s.modClk f).flt = s.flt := rfl
@[simp] theorem State.modClk_outputs (f : Clk → Clk) : (s.modClk f).outputs = s.outputs := rfl
@[simp] theorem State.modClk_free (f : Clk → Clk) : (s.modClk f).free = s.free := rfl
@[simp] theorem State.modClk_pending (f : Clk → Clk) : (s.modClk f).pending = s.pending := rfl
@[simp] theorem State.modClk_seq (f : Clk → Clk) (st : Station) : (s.modClk f).seq st = s.seq st := rfl
@[simp] theorem State.modClk_drive (f : Clk → Clk) (st : Station) : (s.modClk f).drive st = s.drive st := rfl

@[simp] theorem State.modLbl_lnk (f : Lbl → Lbl) : (s.modLbl f).lnk = s.lnk := rfl
@[simp] theorem State.modLbl_ord (f : Lbl → Lbl) : (s.modLbl f).ord = s.ord := rfl
@[simp] theorem State.modLbl_seqs (f : Lbl → Lbl) : (s.modLbl f).seqs = s.seqs := rfl
@[simp] theorem State.modLbl_drives (f : Lbl → Lbl) : (s.modLbl f).drives = s.drives := rfl
@[simp] theorem State.modLbl_gen (f : Lbl → Lbl) : (s.modLbl f).gen = s.gen := rfl
@[simp] theorem State.modLbl_rol (f : Lbl → Lbl) : (s.modLbl f).rol = s.rol := rfl
@[simp] theorem State.modLbl_acc (f : Lbl → Lbl) : (s.modLbl f).acc = s.acc := rfl
@[simp] theorem State.modLbl_jnl (f : Lbl → Lbl) : (s.modLbl f).jnl = s.jnl := rfl
@[simp] theorem State.modLbl_clk (f : Lbl → Lbl) : (s.modLbl f).clk = s.clk := rfl
@[simp] theorem State.modLbl_lbl (f : Lbl → Lbl) : (s.modLbl f).lbl = f s.lbl := rfl
@[simp] theorem State.modLbl_prn (f : Lbl → Lbl) : (s.modLbl f).prn = s.prn := rfl
@[simp] theorem State.modLbl_flt (f : Lbl → Lbl) : (s.modLbl f).flt = s.flt := rfl
@[simp] theorem State.modLbl_outputs (f : Lbl → Lbl) : (s.modLbl f).outputs = s.outputs := rfl
@[simp] theorem State.modLbl_free (f : Lbl → Lbl) : (s.modLbl f).free = s.free := rfl
@[simp] theorem State.modLbl_pending (f : Lbl → Lbl) : (s.modLbl f).pending = s.pending := rfl
@[simp] theorem State.modLbl_seq (f : Lbl → Lbl) (st : Station) : (s.modLbl f).seq st = s.seq st := rfl
@[simp] theorem State.modLbl_drive (f : Lbl → Lbl) (st : Station) : (s.modLbl f).drive st = s.drive st := rfl

@[simp] theorem State.modPrn_lnk (f : Prn → Prn) : (s.modPrn f).lnk = s.lnk := rfl
@[simp] theorem State.modPrn_ord (f : Prn → Prn) : (s.modPrn f).ord = s.ord := rfl
@[simp] theorem State.modPrn_seqs (f : Prn → Prn) : (s.modPrn f).seqs = s.seqs := rfl
@[simp] theorem State.modPrn_drives (f : Prn → Prn) : (s.modPrn f).drives = s.drives := rfl
@[simp] theorem State.modPrn_gen (f : Prn → Prn) : (s.modPrn f).gen = s.gen := rfl
@[simp] theorem State.modPrn_rol (f : Prn → Prn) : (s.modPrn f).rol = s.rol := rfl
@[simp] theorem State.modPrn_acc (f : Prn → Prn) : (s.modPrn f).acc = s.acc := rfl
@[simp] theorem State.modPrn_jnl (f : Prn → Prn) : (s.modPrn f).jnl = s.jnl := rfl
@[simp] theorem State.modPrn_clk (f : Prn → Prn) : (s.modPrn f).clk = s.clk := rfl
@[simp] theorem State.modPrn_lbl (f : Prn → Prn) : (s.modPrn f).lbl = s.lbl := rfl
@[simp] theorem State.modPrn_prn (f : Prn → Prn) : (s.modPrn f).prn = f s.prn := rfl
@[simp] theorem State.modPrn_flt (f : Prn → Prn) : (s.modPrn f).flt = s.flt := rfl
@[simp] theorem State.modPrn_outputs (f : Prn → Prn) : (s.modPrn f).outputs = s.outputs := rfl
@[simp] theorem State.modPrn_free (f : Prn → Prn) : (s.modPrn f).free = s.free := rfl
@[simp] theorem State.modPrn_pending (f : Prn → Prn) : (s.modPrn f).pending = s.pending := rfl
@[simp] theorem State.modPrn_seq (f : Prn → Prn) (st : Station) : (s.modPrn f).seq st = s.seq st := rfl
@[simp] theorem State.modPrn_drive (f : Prn → Prn) (st : Station) : (s.modPrn f).drive st = s.drive st := rfl

@[simp] theorem State.modFlt_lnk (f : Flt → Flt) : (s.modFlt f).lnk = s.lnk := rfl
@[simp] theorem State.modFlt_ord (f : Flt → Flt) : (s.modFlt f).ord = s.ord := rfl
@[simp] theorem State.modFlt_seqs (f : Flt → Flt) : (s.modFlt f).seqs = s.seqs := rfl
@[simp] theorem State.modFlt_drives (f : Flt → Flt) : (s.modFlt f).drives = s.drives := rfl
@[simp] theorem State.modFlt_gen (f : Flt → Flt) : (s.modFlt f).gen = s.gen := rfl
@[simp] theorem State.modFlt_rol (f : Flt → Flt) : (s.modFlt f).rol = s.rol := rfl
@[simp] theorem State.modFlt_acc (f : Flt → Flt) : (s.modFlt f).acc = s.acc := rfl
@[simp] theorem State.modFlt_jnl (f : Flt → Flt) : (s.modFlt f).jnl = s.jnl := rfl
@[simp] theorem State.modFlt_clk (f : Flt → Flt) : (s.modFlt f).clk = s.clk := rfl
@[simp] theorem State.modFlt_lbl (f : Flt → Flt) : (s.modFlt f).lbl = s.lbl := rfl
@[simp] theorem State.modFlt_prn (f : Flt → Flt) : (s.modFlt f).prn = s.prn := rfl
@[simp] theorem State.modFlt_flt (f : Flt → Flt) : (s.modFlt f).flt = f s.flt := rfl
@[simp] theorem State.modFlt_outputs (f : Flt → Flt) : (s.modFlt f).outputs = s.outputs := rfl
@[simp] theorem State.modFlt_free (f : Flt → Flt) : (s.modFlt f).free = s.free := rfl
@[simp] theorem State.modFlt_pending (f : Flt → Flt) : (s.modFlt f).pending = s.pending := rfl
@[simp] theorem State.modFlt_seq (f : Flt → Flt) (st : Station) : (s.modFlt f).seq st = s.seq st := rfl
@[simp] theorem State.modFlt_drive (f : Flt → Flt) (st : Station) : (s.modFlt f).drive st = s.drive st := rfl

@[simp] theorem State.modSeq_lnk (st : Station) (f : Sequencer → Sequencer) : (s.modSeq st f).lnk = s.lnk := rfl
@[simp] theorem State.modSeq_ord (st : Station) (f : Sequencer → Sequencer) : (s.modSeq st f).ord = s.ord := rfl
@[simp] theorem State.modSeq_seqs (st : Station) (f : Sequencer → Sequencer) : (s.modSeq st f).seqs = s.seqs.modify f st := rfl
@[simp] theorem State.modSeq_drives (st : Station) (f : Sequencer → Sequencer) : (s.modSeq st f).drives = s.drives := rfl
@[simp] theorem State.modSeq_gen (st : Station) (f : Sequencer → Sequencer) : (s.modSeq st f).gen = s.gen := rfl
@[simp] theorem State.modSeq_rol (st : Station) (f : Sequencer → Sequencer) : (s.modSeq st f).rol = s.rol := rfl
@[simp] theorem State.modSeq_acc (st : Station) (f : Sequencer → Sequencer) : (s.modSeq st f).acc = s.acc := rfl
@[simp] theorem State.modSeq_jnl (st : Station) (f : Sequencer → Sequencer) : (s.modSeq st f).jnl = s.jnl := rfl
@[simp] theorem State.modSeq_clk (st : Station) (f : Sequencer → Sequencer) : (s.modSeq st f).clk = s.clk := rfl
@[simp] theorem State.modSeq_lbl (st : Station) (f : Sequencer → Sequencer) : (s.modSeq st f).lbl = s.lbl := rfl
@[simp] theorem State.modSeq_prn (st : Station) (f : Sequencer → Sequencer) : (s.modSeq st f).prn = s.prn := rfl
@[simp] theorem State.modSeq_flt (st : Station) (f : Sequencer → Sequencer) : (s.modSeq st f).flt = s.flt := rfl
@[simp] theorem State.modSeq_outputs (st : Station) (f : Sequencer → Sequencer) : (s.modSeq st f).outputs = s.outputs := rfl
@[simp] theorem State.modSeq_free (st : Station) (f : Sequencer → Sequencer) : (s.modSeq st f).free = s.free := rfl
@[simp] theorem State.modSeq_pending (st : Station) (f : Sequencer → Sequencer) : (s.modSeq st f).pending = s.pending := rfl

@[simp] theorem State.modDrive_lnk (st : Station) (f : Drive → Drive) : (s.modDrive st f).lnk = s.lnk := rfl
@[simp] theorem State.modDrive_ord (st : Station) (f : Drive → Drive) : (s.modDrive st f).ord = s.ord := rfl
@[simp] theorem State.modDrive_seqs (st : Station) (f : Drive → Drive) : (s.modDrive st f).seqs = s.seqs := rfl
@[simp] theorem State.modDrive_drives (st : Station) (f : Drive → Drive) : (s.modDrive st f).drives = s.drives.modify f st := rfl
@[simp] theorem State.modDrive_gen (st : Station) (f : Drive → Drive) : (s.modDrive st f).gen = s.gen := rfl
@[simp] theorem State.modDrive_rol (st : Station) (f : Drive → Drive) : (s.modDrive st f).rol = s.rol := rfl
@[simp] theorem State.modDrive_acc (st : Station) (f : Drive → Drive) : (s.modDrive st f).acc = s.acc := rfl
@[simp] theorem State.modDrive_jnl (st : Station) (f : Drive → Drive) : (s.modDrive st f).jnl = s.jnl := rfl
@[simp] theorem State.modDrive_clk (st : Station) (f : Drive → Drive) : (s.modDrive st f).clk = s.clk := rfl
@[simp] theorem State.modDrive_lbl (st : Station) (f : Drive → Drive) : (s.modDrive st f).lbl = s.lbl := rfl
@[simp] theorem State.modDrive_prn (st : Station) (f : Drive → Drive) : (s.modDrive st f).prn = s.prn := rfl
@[simp] theorem State.modDrive_flt (st : Station) (f : Drive → Drive) : (s.modDrive st f).flt = s.flt := rfl
@[simp] theorem State.modDrive_outputs (st : Station) (f : Drive → Drive) : (s.modDrive st f).outputs = s.outputs := rfl
@[simp] theorem State.modDrive_free (st : Station) (f : Drive → Drive) : (s.modDrive st f).free = s.free := rfl
@[simp] theorem State.modDrive_pending (st : Station) (f : Drive → Drive) : (s.modDrive st f).pending = s.pending := rfl

@[simp] theorem State.modSeq_drive (st st' : Station) (f : Sequencer → Sequencer) : (s.modSeq st f).drive st' = s.drive st' := rfl
@[simp] theorem State.modDrive_seq (st st' : Station) (f : Drive → Drive) : (s.modDrive st f).seq st' = s.seq st' := rfl
@[simp] theorem State.modSeq_seq_same (st : Station) (f : Sequencer → Sequencer) : (s.modSeq st f).seq st = f (s.seq st) := by cases st <;> rfl
@[simp] theorem State.modDrive_drive_same (st : Station) (f : Drive → Drive) : (s.modDrive st f).drive st = f (s.drive st) := by cases st <;> rfl

theorem State.modSeq_seq_other {st st' : Station} (h : st' ≠ st) (f : Sequencer → Sequencer) : (s.modSeq st f).seq st' = s.seq st' := by
  cases st <;> cases st' <;> first | rfl | exact absurd rfl h

theorem State.modDrive_drive_other {st st' : Station} (h : st' ≠ st) (f : Drive → Drive) : (s.modDrive st f).drive st' = s.drive st' := by
  cases st <;> cases st' <;> first | rfl | exact absurd rfl h

@[simp] theorem State.emit_lnk (o : Output) : (s.emit o).lnk = s.lnk := rfl
@[simp] theorem State.emit_ord (o : Output) : (s.emit o).ord = s.ord := rfl
@[simp] theorem State.emit_seqs (o : Output) : (s.emit o).seqs = s.seqs := rfl
@[simp] theorem State.emit_drives (o : Output) : (s.emit o).drives = s.drives := rfl
@[simp] theorem State.emit_gen (o : Output) : (s.emit o).gen = s.gen := rfl
@[simp] theorem State.emit_rol (o : Output) : (s.emit o).rol = s.rol := rfl
@[simp] theorem State.emit_acc (o : Output) : (s.emit o).acc = s.acc := rfl
@[simp] theorem State.emit_jnl (o : Output) : (s.emit o).jnl = s.jnl := rfl
@[simp] theorem State.emit_clk (o : Output) : (s.emit o).clk = s.clk := rfl
@[simp] theorem State.emit_lbl (o : Output) : (s.emit o).lbl = s.lbl := rfl
@[simp] theorem State.emit_prn (o : Output) : (s.emit o).prn = s.prn := rfl
@[simp] theorem State.emit_flt (o : Output) : (s.emit o).flt = s.flt := rfl
@[simp] theorem State.emit_outputs (o : Output) : (s.emit o).outputs = s.outputs ++ [o] := rfl
@[simp] theorem State.emit_free (o : Output) : (s.emit o).free = s.free := rfl
@[simp] theorem State.emit_pending (o : Output) : (s.emit o).pending = s.pending := rfl
@[simp] theorem State.emit_seq (o : Output) (st : Station) : (s.emit o).seq st = s.seq st := rfl
@[simp] theorem State.emit_drive (o : Output) (st : Station) : (s.emit o).drive st = s.drive st := rfl

@[simp] theorem State.useFree_lnk : s.useFree.lnk = s.lnk := rfl
@[simp] theorem State.useFree_ord : s.useFree.ord = s.ord := rfl
@[simp] theorem State.useFree_seqs : s.useFree.seqs = s.seqs := rfl
@[simp] theorem State.useFree_drives : s.useFree.drives = s.drives := rfl
@[simp] theorem State.useFree_gen : s.useFree.gen = s.gen := rfl
@[simp] theorem State.useFree_rol : s.useFree.rol = s.rol := rfl
@[simp] theorem State.useFree_acc : s.useFree.acc = s.acc := rfl
@[simp] theorem State.useFree_jnl : s.useFree.jnl = s.jnl := rfl
@[simp] theorem State.useFree_clk : s.useFree.clk = s.clk := rfl
@[simp] theorem State.useFree_lbl : s.useFree.lbl = s.lbl := rfl
@[simp] theorem State.useFree_prn : s.useFree.prn = s.prn := rfl
@[simp] theorem State.useFree_flt : s.useFree.flt = s.flt := rfl
@[simp] theorem State.useFree_outputs : s.useFree.outputs = s.outputs := rfl
@[simp] theorem State.useFree_free : s.useFree.free = s.free + 1 := rfl
@[simp] theorem State.useFree_pending : s.useFree.pending = s.pending := rfl
@[simp] theorem State.useFree_seq (st : Station) : s.useFree.seq st = s.seq st := rfl
@[simp] theorem State.useFree_drive (st : Station) : s.useFree.drive st = s.drive st := rfl

@[simp] theorem State.raise_ord (n : Notice) : (s.raise n).ord = s.ord := rfl
@[simp] theorem State.raise_seqs (n : Notice) : (s.raise n).seqs = s.seqs := rfl
@[simp] theorem State.raise_drives (n : Notice) : (s.raise n).drives = s.drives := rfl
@[simp] theorem State.raise_gen (n : Notice) : (s.raise n).gen = s.gen := rfl
@[simp] theorem State.raise_rol (n : Notice) : (s.raise n).rol = s.rol := rfl
@[simp] theorem State.raise_acc (n : Notice) : (s.raise n).acc = s.acc := rfl
@[simp] theorem State.raise_jnl (n : Notice) : (s.raise n).jnl = s.jnl := rfl
@[simp] theorem State.raise_clk (n : Notice) : (s.raise n).clk = s.clk := rfl
@[simp] theorem State.raise_lbl (n : Notice) : (s.raise n).lbl = s.lbl := rfl
@[simp] theorem State.raise_prn (n : Notice) : (s.raise n).prn = s.prn := rfl
@[simp] theorem State.raise_flt (n : Notice) : (s.raise n).flt = s.flt := rfl
@[simp] theorem State.raise_outputs (n : Notice) : (s.raise n).outputs = s.outputs := rfl
@[simp] theorem State.raise_free (n : Notice) : (s.raise n).free = s.free := rfl
@[simp] theorem State.raise_pending (n : Notice) : (s.raise n).pending = s.pending := rfl
@[simp] theorem State.raise_seq (n : Notice) (st : Station) : (s.raise n).seq st = s.seq st := rfl
@[simp] theorem State.raise_drive (n : Notice) (st : Station) : (s.raise n).drive st = s.drive st := rfl

@[simp] theorem State.placeReply_ord (r : Reply) : (s.placeReply r).ord = s.ord := rfl
@[simp] theorem State.placeReply_seqs (r : Reply) : (s.placeReply r).seqs = s.seqs := rfl
@[simp] theorem State.placeReply_drives (r : Reply) : (s.placeReply r).drives = s.drives := rfl
@[simp] theorem State.placeReply_gen (r : Reply) : (s.placeReply r).gen = s.gen := rfl
@[simp] theorem State.placeReply_rol (r : Reply) : (s.placeReply r).rol = s.rol := rfl
@[simp] theorem State.placeReply_acc (r : Reply) : (s.placeReply r).acc = s.acc := rfl
@[simp] theorem State.placeReply_jnl (r : Reply) : (s.placeReply r).jnl = s.jnl := rfl
@[simp] theorem State.placeReply_clk (r : Reply) : (s.placeReply r).clk = s.clk := rfl
@[simp] theorem State.placeReply_lbl (r : Reply) : (s.placeReply r).lbl = s.lbl := rfl
@[simp] theorem State.placeReply_prn (r : Reply) : (s.placeReply r).prn = s.prn := rfl
@[simp] theorem State.placeReply_flt (r : Reply) : (s.placeReply r).flt = s.flt := rfl
@[simp] theorem State.placeReply_outputs (r : Reply) : (s.placeReply r).outputs = s.outputs := rfl
@[simp] theorem State.placeReply_free (r : Reply) : (s.placeReply r).free = s.free := rfl
@[simp] theorem State.placeReply_pending (r : Reply) : (s.placeReply r).pending = s.pending := rfl
@[simp] theorem State.placeReply_seq (r : Reply) (st : Station) : (s.placeReply r).seq st = s.seq st := rfl
@[simp] theorem State.placeReply_drive (r : Reply) (st : Station) : (s.placeReply r).drive st = s.drive st := rfl

@[simp] theorem State.frameTaken_ord : s.frameTaken.ord = s.ord := rfl
@[simp] theorem State.frameTaken_seqs : s.frameTaken.seqs = s.seqs := rfl
@[simp] theorem State.frameTaken_drives : s.frameTaken.drives = s.drives := rfl
@[simp] theorem State.frameTaken_gen : s.frameTaken.gen = s.gen := rfl
@[simp] theorem State.frameTaken_rol : s.frameTaken.rol = s.rol := rfl
@[simp] theorem State.frameTaken_acc : s.frameTaken.acc = s.acc := rfl
@[simp] theorem State.frameTaken_jnl : s.frameTaken.jnl = s.jnl := rfl
@[simp] theorem State.frameTaken_clk : s.frameTaken.clk = s.clk := rfl
@[simp] theorem State.frameTaken_lbl : s.frameTaken.lbl = s.lbl := rfl
@[simp] theorem State.frameTaken_prn : s.frameTaken.prn = s.prn := rfl
@[simp] theorem State.frameTaken_flt : s.frameTaken.flt = s.flt := rfl
@[simp] theorem State.frameTaken_outputs : s.frameTaken.outputs = s.outputs := rfl
@[simp] theorem State.frameTaken_free : s.frameTaken.free = s.free := rfl
@[simp] theorem State.frameTaken_pending : s.frameTaken.pending = s.pending := rfl
@[simp] theorem State.frameTaken_seq (st : Station) : s.frameTaken.seq st = s.seq st := rfl
@[simp] theorem State.frameTaken_drive (st : Station) : s.frameTaken.drive st = s.drive st := rfl

@[simp] theorem State.transmit_ord : s.transmit.ord = s.ord := rfl
@[simp] theorem State.transmit_seqs : s.transmit.seqs = s.seqs := rfl
@[simp] theorem State.transmit_drives : s.transmit.drives = s.drives := rfl
@[simp] theorem State.transmit_gen : s.transmit.gen = s.gen := rfl
@[simp] theorem State.transmit_rol : s.transmit.rol = s.rol := rfl
@[simp] theorem State.transmit_acc : s.transmit.acc = s.acc := rfl
@[simp] theorem State.transmit_jnl : s.transmit.jnl = s.jnl := rfl
@[simp] theorem State.transmit_clk : s.transmit.clk = s.clk := rfl
@[simp] theorem State.transmit_lbl : s.transmit.lbl = s.lbl := rfl
@[simp] theorem State.transmit_prn : s.transmit.prn = s.prn := rfl
@[simp] theorem State.transmit_flt : s.transmit.flt = s.flt := rfl
@[simp] theorem State.transmit_free : s.transmit.free = s.free := rfl
@[simp] theorem State.transmit_pending : s.transmit.pending = s.pending := rfl
@[simp] theorem State.transmit_seq (st : Station) : s.transmit.seq st = s.seq st := rfl
@[simp] theorem State.transmit_drive (st : Station) : s.transmit.drive st = s.drive st := rfl

end

end Sys2Proof.Machine
end

