-- ==== Sys2Proof/Laws/Ops.lean ====
section
/-! SUPPORT. What each shared operation can do, once: the shapes of a command, the transmitter, notices, captures, journal
and account operations. -/

namespace Sys2Proof.Machine

/-! ### The shapes of a command -/

theorem event_eq (f : State → State) (s : State) : event f s = .next (f s.begun).transmit := rfl

/-- A request that LNK takes: its fields are answered in the state `asked`. -/
theorem request_fields {α : Type} (kind : RequestKind) (tag : Byte) (f : α) (owner : α → State → Answer) (s : State)
    (h : Accepts tag s) :
    request kind tag (.fields f) owner s = .next ((owner f s.asked).state.placeReply
      { tag := tag, kind := kind.code, status := (owner f s.asked).status, body := (owner f s.asked).body }).transmit := by
  have h1 : ¬ tag = 0 := h.1
  have h2 : ¬ Config.maxReplies ≤ s.lnk.replies.length := Nat.not_le.mpr h.2
  simp only [request, event, takePayload, takeRequest, State.frameTaken, State.modLnk, h1, h2, if_false]
  rfl

/-- A request that LNK takes, from what its owner answers. -/
theorem request_answers {α : Type} {kind : RequestKind} {tag : Byte} {f : α} {owner : α → State → Answer} {s u : State}
    {x : Status} {b : ReplyBody} (h : Accepts tag s) (ho : owner f s.asked = { state := u, status := x, body := b }) :
    request kind tag (.fields f) owner s =
      .next (u.placeReply { tag := tag, kind := kind.code, status := x, body := b }).transmit := by
  rw [request_fields kind tag f owner s h, ho]

/-- A request that LNK takes with a malformed payload is answered BAD_FIELD (R197). -/
theorem request_malformed {α : Type} (kind : RequestKind) (tag : Byte) (owner : α → State → Answer) (s : State)
    (h : Accepts tag s) :
    request kind tag .malformed owner s = .next (s.asked.placeReply
      { tag := tag, kind := kind.code, status := .badField, body := .nothing }).transmit := by
  have h1 : ¬ tag = 0 := h.1
  have h2 : ¬ Config.maxReplies ≤ s.lnk.replies.length := Nat.not_le.mpr h.2
  simp only [request, event, takePayload, takeRequest, State.frameTaken, State.modLnk, h1, h2, if_false]
  rfl

/-- A request with tag 0 is discarded (R197). -/
theorem request_tag_zero {α : Type} (kind : RequestKind) (p : Payload α) (owner : α → State → Answer) (s : State) :
    request kind 0 p owner s = .next s.asked.transmit := rfl

/-- A request at a full reply list is discarded with the overflow flag set (R197). -/
theorem request_overflow {α : Type} (kind : RequestKind) (tag : Byte) (p : Payload α) (owner : α → State → Answer)
    (s : State) (ht : tag ≠ 0) (h : Config.maxReplies ≤ s.lnk.replies.length) :
    request kind tag p owner s =
      .next (State.transmit { s.asked with lnk := { s.asked.lnk with requestOverflow := true } }) := by
  have h1 : ¬ tag = 0 := ht
  simp only [request, event, takePayload, takeRequest, State.frameTaken, State.modLnk, h1, h, if_false, if_true]
  rfl

/-- Every request answers a next state. -/
theorem request_next {α : Type} (kind : RequestKind) (tag : Byte) (p : Payload α) (owner : α → State → Answer)
    (s : State) : ∃ t, request kind tag p owner s = .next t := ⟨_, rfl⟩

@[simp] theorem refuse_state (s : State) (x : Status) (b : ReplyBody) : (refuse s x b).state = s := rfl
@[simp] theorem refuse_status (s : State) (x : Status) (b : ReplyBody) : (refuse s x b).status = x := rfl
@[simp] theorem refuse_body (s : State) (x : Status) (b : ReplyBody) : (refuse s x b).body = b := rfl
@[simp] theorem taken_state (s : State) (b : ReplyBody) : (taken s b).state = s := rfl
@[simp] theorem taken_status (s : State) (b : ReplyBody) : (taken s b).status = .ok := rfl
@[simp] theorem taken_body (s : State) (b : ReplyBody) : (taken s b).body = b := rfl

/-! ### The state that a command finds -/

@[simp] theorem State.asked_ord (s : State) : s.asked.ord = s.ord := rfl
@[simp] theorem State.asked_seqs (s : State) : s.asked.seqs = s.seqs := rfl
@[simp] theorem State.asked_drives (s : State) : s.asked.drives = s.drives := rfl
@[simp] theorem State.asked_gen (s : State) : s.asked.gen = s.gen := rfl
@[simp] theorem State.asked_rol (s : State) : s.asked.rol = s.rol := rfl
@[simp] theorem State.asked_acc (s : State) : s.asked.acc = s.acc := rfl
@[simp] theorem State.asked_jnl (s : State) : s.asked.jnl = s.jnl := rfl
@[simp] theorem State.asked_clk (s : State) : s.asked.clk = s.clk := rfl
@[simp] theorem State.asked_lbl (s : State) : s.asked.lbl = s.lbl := rfl
@[simp] theorem State.asked_prn (s : State) : s.asked.prn = s.prn := rfl
@[simp] theorem State.asked_flt (s : State) : s.asked.flt = s.flt := rfl
@[simp] theorem State.asked_free (s : State) : s.asked.free = s.free := rfl
@[simp] theorem State.asked_seq (s : State) (st : Station) : s.asked.seq st = s.seq st := rfl
@[simp] theorem State.asked_drive (s : State) (st : Station) : s.asked.drive st = s.drive st := rfl
@[simp] theorem State.asked_order (s : State) (id : Nat) : s.asked.order? id = s.order? id := rfl
@[simp] theorem State.asked_account (s : State) (n : Nat) : s.asked.account? n = s.account? n := rfl
@[simp] theorem State.asked_roll (s : State) (n : Nat) : s.asked.roll? n = s.roll? n := rfl
@[simp] theorem State.asked_rollAt (s : State) (st : Station) : s.asked.rollAt st = s.rollAt st := rfl
@[simp] theorem State.asked_speed (s : State) (n : Nat) : s.asked.speed? n = s.speed? n := rfl
@[simp] theorem State.begun_seq (s : State) (st : Station) : s.begun.seq st = s.seq st := rfl
@[simp] theorem State.begun_drive (s : State) (st : Station) : s.begun.drive st = s.drive st := rfl
@[simp] theorem State.begun_rollAt (s : State) (st : Station) : s.begun.rollAt st = s.rollAt st := rfl
@[simp] theorem State.begun_gen (s : State) : s.begun.gen = s.gen := rfl
@[simp] theorem State.begun_prn (s : State) : s.begun.prn = s.prn := rfl
@[simp] theorem State.begun_lnk (s : State) : s.begun.lnk = s.lnk := rfl

/-! ### Lists updated where a test holds -/

theorem mem_updateWhere {α : Type} {p : α → Bool} {f : α → α} {l : List α} {b : α} :
    b ∈ updateWhere p f l ↔ ∃ a ∈ l, b = if p a then f a else a := by
  simp only [updateWhere, List.mem_map]
  exact ⟨fun ⟨a, ha, h⟩ => ⟨a, ha, h.symm⟩, fun ⟨a, ha, h⟩ => ⟨a, ha, h.symm⟩⟩

@[simp] theorem length_updateWhere {α : Type} (p : α → Bool) (f : α → α) (l : List α) :
    (updateWhere p f l).length = l.length := by simp [updateWhere]

theorem map_updateWhere {α β : Type} {p : α → Bool} {f : α → α} {g : α → β} (l : List α) (h : ∀ a, g (f a) = g a) :
    (updateWhere p f l).map g = l.map g := by
  simp only [updateWhere, List.map_map]
  exact List.map_congr_left fun a _ => by by_cases hp : p a <;> simp [hp, h]

/-! ### The transmitter and notices -/

/-- What the transmitter's choice can do: nothing; or one reply or one notice leaves the head of its list (R199). -/
theorem transmit_cases (s : State) :
    s.transmit = s ∨
    (∃ r rest, s.lnk.transmitter = none ∧ s.lnk.replies = r :: rest ∧ s.transmit =
      { s with lnk := { s.lnk with transmitter := some (.reply r), replies := rest }
               outputs := s.outputs ++ [.hostFrame (OutFrame.reply r).bytes] }) ∨
    (∃ n rest, s.lnk.transmitter = none ∧ s.lnk.replies = [] ∧ s.lnk.notices = n :: rest ∧ s.transmit =
      { s with lnk := { s.lnk with transmitter := some (.notice n), notices := rest }
               outputs := s.outputs ++ [.hostFrame (OutFrame.notice n).bytes] }) := by
  cases ht : s.lnk.transmitter with
  | some f => left; simp [State.transmit, Lnk.begun, Lnk.begunOutputs, Lnk.begins, ht]
  | none =>
    cases hr : s.lnk.replies with
    | cons r rest =>
      right; left
      exact ⟨r, rest, rfl, rfl, by simp [State.transmit, Lnk.begun, Lnk.begunOutputs, Lnk.begins, ht, Lnk.choice, hr]⟩
    | nil =>
      cases hn : s.lnk.notices with
      | nil => left; simp [State.transmit, Lnk.begun, Lnk.begunOutputs, Lnk.begins, ht, Lnk.choice, hr, hn]
      | cons n rest =>
        right; right
        exact ⟨n, rest, rfl, rfl, rfl,
          by simp [State.transmit, Lnk.begun, Lnk.begunOutputs, Lnk.begins, ht, Lnk.choice, hr, hn]⟩

/-- The transmitter's choice changes LNK and the outputs alone. -/
theorem transmit_blocks (s : State) : ∃ l o, s.transmit = { s with lnk := l, outputs := o } := ⟨_, _, rfl⟩

/-- A transmitter that has chosen has no further choice to make (R199). -/
@[simp] theorem transmit_transmit (s : State) : s.transmit.transmit = s.transmit := by
  rcases transmit_cases s with h | ⟨r, rest, ht, hr, h⟩ | ⟨n, rest, ht, hr, hn, h⟩
  · rw [h, h]
  · rw [h]; simp [State.transmit, Lnk.begun, Lnk.begunOutputs, Lnk.begins]
  · rw [h]; simp [State.transmit, Lnk.begun, Lnk.begunOutputs, Lnk.begins]

/-- A notice raised changes LNK's queue or its overflow flag alone (R200). -/
theorem raise_cases (n : Notice) (s : State) :
    (s.lnk.notices.length < 32 ∧ s.raise n = { s with lnk := { s.lnk with notices := s.lnk.notices ++ [n] } }) ∨
    (32 ≤ s.lnk.notices.length ∧ s.raise n = { s with lnk := { s.lnk with noticeOverflow := true } }) := by
  by_cases h : s.lnk.notices.length < 32
  · left; exact ⟨h, by simp [State.raise, Lnk.raise, State.modLnk, Config.maxNotices, h]⟩
  · right; exact ⟨Nat.not_lt.mp h, by simp [State.raise, Lnk.raise, State.modLnk, Config.maxNotices, h]⟩

/-! ### Captures (R186) -/

theorem Flt.get_set (x : Flt) (u v : Unit5) (c : Option Capture) : (x.set u c).get v = if v = u then c else x.get v := by
  cases u <;> cases v <;> rfl

/-- A capture touches no unit's capture but its own, and keeps the first fault of a locked one. -/
theorem capture_get (u v : Unit5) (c : Capture) (s : State) (x : Capture) (h : s.flt.get v = some x) :
    (s.capture u c).flt.get v = some x ∨ (s.capture u c).flt.get v = some { x with further := true } := by
  by_cases hv : v = u
  · subst hv
    right
    simp [State.capture, h, Flt.get_set]
  · left
    unfold State.capture
    cases hu : s.flt.get u with
    | none => simp [Flt.get_set, hv, h, State.raise]
    | some old => simp [Flt.get_set, hv, h]

/-! ### The journal (R136, R137) -/

/-- An append changes the journal by its entry alone. -/
theorem appendEntry_jnl (fills : Bool) (e : Nat → JournalEntry) (s : State) :
    (s.appendEntry fills e).jnl = s.jnl.append fills e := by
  unfold State.appendEntry
  extract_lets t
  split <;> rfl

/-- With a slot, an append puts one entry with the next sequence number at the end; the next number is one higher. -/
theorem Jnl.append_room (fills : Bool) (e : Nat → JournalEntry) (j : Jnl) (h : j.entries.length < 256) :
    j.append fills e =
      { entries := j.entries ++ [e j.next], reserved := if fills then j.reserved - 1 else j.reserved, next := j.next + 1 } :=
  if_pos h

/-- Entries and reserved slots together pass the capacity by no append (R135). -/
theorem Jnl.append_bounded (e : Nat → JournalEntry) (j : Jnl) (h : j.entries.length + j.reserved ≤ 256) :
    (j.append true e).entries.length + (j.append true e).reserved ≤ 256 := by
  unfold Jnl.append
  split
  · simp [Config.maxJournal] at *; omega
  · exact h

/-! ### The frame table (R103, R105) -/

/-- With a frame of the roll and a record of the table left, recording adds one record at the end. -/
theorem Rol.record_frames (r : Roll) (kind : FrameKind) (e : Option Exposure) (d : Option Nat) (t : Rol)
    (h : r.next ≤ r.capacity) (hf : t.frames.length < 1024) :
    (t.record r kind e d).frames = t.frames ++ [newFrame r kind e d] := by
  simp [Rol.record, Config.maxFrames, h, hf]

/-- Used and reserved records together pass the capacity by no recording, a RECOVERY frame's of a free record among them
(R103). -/
theorem Rol.record_bounded (r : Roll) (kind : FrameKind) (e : Option Exposure) (d : Option Nat) (t : Rol)
    (h : t.frames.length + t.reserved ≤ 1024) (hk : kind = .recovery → t.frames.length + t.reserved < 1024) :
    (t.record r kind e d).frames.length + (t.record r kind e d).reserved ≤ 1024 := by
  unfold Rol.record
  split
  · by_cases hr : kind = .recovery
    · have := hk hr; simp [hr, Config.maxFrames] at *; omega
    · simp [hr, Config.maxFrames] at *; omega
  · exact h

/-! ### Start-up notices (R204) -/

theorem flatten_filter_ne_nil {α : Type} [DecidableEq α] (ls : List (List α)) : (ls.filter fun l => l != []).flatten = ls.flatten := by
  induction ls with
  | nil => rfl
  | cons l ls ih => cases l <;> simp [ih]

/-- Taking the head off one list of several takes it off their members. -/
theorem flatten_set_perm {α : Type} (ls : List (List α)) (k : Nat) (n : α) (rest : List α) (h : ls[k]? = some (n :: rest)) :
    List.Perm (n :: (ls.set k rest).flatten) ls.flatten := by
  induction ls generalizing k with
  | nil => simp at h
  | cons l ls ih =>
    cases k with
    | zero => simp at h; subst h; simp
    | succ k =>
      simp at h
      simp only [List.set_cons_succ, List.flatten_cons]
      exact (List.perm_middle.symm).trans ((ih k h).append_left l)

/-- Interleaving keeps every notice, once (R204). -/
theorem interleave_perm (fuel c : Nat) (ls : List (List Notice)) (h : ls.flatten.length ≤ fuel) :
    List.Perm (interleave fuel c ls) ls.flatten := by
  induction fuel generalizing c ls with
  | zero =>
    have : ls.flatten = [] := List.eq_nil_of_length_eq_zero (by omega)
    rw [this]; exact .nil
  | succ fuel ih =>
    simp only [interleave]
    rw [← flatten_filter_ne_nil ls] at h ⊢
    generalize hl : (ls.filter fun l => l != []) = live at h ⊢
    have hne : ∀ l ∈ live, l ≠ [] := by
      intro l hm; rw [← hl] at hm; simpa using (List.mem_filter.mp hm).2
    cases hk : live[c % live.length]? with
    | none =>
      cases live with
      | nil => simp
      | cons l ls' =>
        have : c % (l :: ls').length < (l :: ls').length := Nat.mod_lt _ (by simp)
        simp at hk; simp at this; omega
    | some l =>
      cases l with
      | nil => exact absurd rfl (hne [] (List.mem_of_getElem? hk))
      | cons n rest =>
        simp only
        have hp := flatten_set_perm live _ n rest hk
        refine List.Perm.trans (List.Perm.cons n (ih _ _ ?_)) hp
        have := hp.length_eq
        simp at this h ⊢; omega

/-- With room for them all, notices raised join the queue in their order (R200). -/
theorem raiseAll_room (ns : List Notice) (s : State) (h : s.lnk.notices.length + ns.length ≤ 32) :
    s.raiseAll ns = { s with lnk := { s.lnk with notices := s.lnk.notices ++ ns } } := by
  have key : ∀ (ns : List Notice) (l : Lnk), l.notices.length + ns.length ≤ 32 →
      ns.foldl (fun l n => l.raise n) l = { l with notices := l.notices ++ ns } := by
    intro ns
    induction ns with
    | nil => intro l _; simp
    | cons n ns ih =>
      intro l h
      simp only [List.length_cons] at h
      have h1 : l.raise n = { l with notices := l.notices ++ [n] } := by
        have : l.notices.length < 32 := by omega
        simp [Lnk.raise, Config.maxNotices, this]
      rw [List.foldl_cons, h1, ih _ (by simp; omega)]; simp
  simp only [State.raiseAll, State.modLnk, key ns s.lnk h]

/-! ### The host line (R196, R197) -/

theorem State.receive_receive (r q : Receiver) (s : State) : (s.receive q).receive r = s.receive r := by
  cases r <;> rfl

@[simp] theorem State.receive_receiver (r : Receiver) (s : State) : (s.receive r).lnk.receiver = r := rfl

/-- Characters that complete no request move the receiver and its gap timer alone. -/
theorem hearHost_no_request (cs : List HostChar) (s : State) (hne : cs ≠ [])
    (h : (s.lnk.receiver.takeAll cs).2.any isRequestFrame = false) :
    s.hearHost cs = s.receive (s.lnk.receiver.takeAll cs).1 := by
  induction cs generalizing s with
  | nil => exact absurd rfl hne
  | cons c cs ih =>
    simp only [Receiver.takeAll, List.any_cons, Bool.or_eq_false_iff] at h
    have hu : ((s.receive (s.lnk.receiver.take c).1).takeReceived (s.lnk.receiver.take c).2) =
        s.receive (s.lnk.receiver.take c).1 := by
      cases hg : (s.lnk.receiver.take c).2 with
      | nothing => rfl
      | bad => rfl
      | good f =>
        have h1 := h.1
        rw [hg] at h1
        exact if_pos (by simpa [isRequestFrame] using h1)
    rw [State.hearHost, hu]
    cases cs with
    | nil => rfl
    | cons d ds =>
      rw [ih _ (List.cons_ne_nil d ds) h.2, State.receive_receive]
      rfl

/-! ### The printer's receiver (R170) -/

theorem hunting_takes_done : ∀ q : Fin 16, PrinterReceiver.hunting.takeAll (PrinterEvent.done q).chars =
    (.hunting, [.nothing, .nothing, .nothing, .nothing, .good (.done q)]) := by decide

theorem hunting_takes_ready : ∀ q : Fin 16, PrinterReceiver.hunting.takeAll (PrinterEvent.ready q).chars =
    (.hunting, [.nothing, .nothing, .nothing, .nothing, .good (.ready q)]) := by decide

theorem hunting_takes_fault (q n : Fin 16) (code : PrinterCode) :
    PrinterReceiver.hunting.takeAll (PrinterEvent.fault q code n).chars =
      (.hunting, [.nothing, .nothing, .nothing, .nothing, .nothing, .nothing, .good (.fault q code n)]) := by
  cases code <;> revert q n <;> decide +kernel

/-- A collecting receiver with no check character due ends its partial frame as bad at the STX of a frame, and takes that
frame as a hunting one does. -/
theorem collecting_takes_chars (cs : List PrinterChar) (h : checkDue cs = false) (e : PrinterEvent)
    (r : PrinterReceiver) (gots : List PrinterGot)
    (he : PrinterReceiver.hunting.takeAll e.chars = (r, .nothing :: gots)) :
    (PrinterReceiver.collecting cs).takeAll e.chars = (r, .bad :: gots) := by
  have hx : ∃ rest, e.chars = { char := 0x02, parityError := false } :: rest := by cases e <;> exact ⟨_, rfl⟩
  obtain ⟨rest, hx⟩ := hx
  rw [hx] at he ⊢
  simp only [PrinterReceiver.takeAll, PrinterReceiver.take, h, if_true, Bool.false_eq_true, if_false] at he ⊢
  simp only [Prod.mk.injEq, List.cons.injEq] at he ⊢
  exact ⟨he.1, trivial, he.2.2⟩

end Sys2Proof.Machine
end

