-- ==== Sys2Proof/Laws/Frames.lean ====
section
/-! SUPPORT. What the shared operations leave alone: one lemma per operation for each block that it does not touch. -/

namespace Sys2Proof.Machine

section

variable (s : State)

/-! ### The order table -/

@[simp] theorem State.modOrder_lnk (id : Nat) (f : Order → Order) : (State.modOrder id f s).lnk = s.lnk := rfl
@[simp] theorem State.modOrder_seqs (id : Nat) (f : Order → Order) : (State.modOrder id f s).seqs = s.seqs := rfl
@[simp] theorem State.modOrder_drives (id : Nat) (f : Order → Order) : (State.modOrder id f s).drives = s.drives := rfl
@[simp] theorem State.modOrder_gen (id : Nat) (f : Order → Order) : (State.modOrder id f s).gen = s.gen := rfl
@[simp] theorem State.modOrder_rol (id : Nat) (f : Order → Order) : (State.modOrder id f s).rol = s.rol := rfl
@[simp] theorem State.modOrder_acc (id : Nat) (f : Order → Order) : (State.modOrder id f s).acc = s.acc := rfl
@[simp] theorem State.modOrder_jnl (id : Nat) (f : Order → Order) : (State.modOrder id f s).jnl = s.jnl := rfl
@[simp] theorem State.modOrder_clk (id : Nat) (f : Order → Order) : (State.modOrder id f s).clk = s.clk := rfl
@[simp] theorem State.modOrder_lbl (id : Nat) (f : Order → Order) : (State.modOrder id f s).lbl = s.lbl := rfl
@[simp] theorem State.modOrder_prn (id : Nat) (f : Order → Order) : (State.modOrder id f s).prn = s.prn := rfl
@[simp] theorem State.modOrder_flt (id : Nat) (f : Order → Order) : (State.modOrder id f s).flt = s.flt := rfl
@[simp] theorem State.modOrder_pending (id : Nat) (f : Order → Order) : (State.modOrder id f s).pending = s.pending := rfl
@[simp] theorem State.modItem_lnk (id n : Nat) (f : Item → Item) : (State.modItem id n f s).lnk = s.lnk := rfl
@[simp] theorem State.modItem_seqs (id n : Nat) (f : Item → Item) : (State.modItem id n f s).seqs = s.seqs := rfl
@[simp] theorem State.modItem_drives (id n : Nat) (f : Item → Item) : (State.modItem id n f s).drives = s.drives := rfl
@[simp] theorem State.modItem_gen (id n : Nat) (f : Item → Item) : (State.modItem id n f s).gen = s.gen := rfl
@[simp] theorem State.modItem_rol (id n : Nat) (f : Item → Item) : (State.modItem id n f s).rol = s.rol := rfl
@[simp] theorem State.modItem_acc (id n : Nat) (f : Item → Item) : (State.modItem id n f s).acc = s.acc := rfl
@[simp] theorem State.modItem_jnl (id n : Nat) (f : Item → Item) : (State.modItem id n f s).jnl = s.jnl := rfl
@[simp] theorem State.modItem_clk (id n : Nat) (f : Item → Item) : (State.modItem id n f s).clk = s.clk := rfl
@[simp] theorem State.modItem_lbl (id n : Nat) (f : Item → Item) : (State.modItem id n f s).lbl = s.lbl := rfl
@[simp] theorem State.modItem_prn (id n : Nat) (f : Item → Item) : (State.modItem id n f s).prn = s.prn := rfl
@[simp] theorem State.modItem_flt (id n : Nat) (f : Item → Item) : (State.modItem id n f s).flt = s.flt := rfl
@[simp] theorem State.modItem_pending (id n : Nat) (f : Item → Item) : (State.modItem id n f s).pending = s.pending := rfl
@[simp] theorem State.holdOrder_seqs (id : Nat) (reason : HoldReason) : (State.holdOrder id reason s).seqs = s.seqs := rfl
@[simp] theorem State.holdOrder_drives (id : Nat) (reason : HoldReason) : (State.holdOrder id reason s).drives = s.drives := rfl
@[simp] theorem State.holdOrder_gen (id : Nat) (reason : HoldReason) : (State.holdOrder id reason s).gen = s.gen := rfl
@[simp] theorem State.holdOrder_rol (id : Nat) (reason : HoldReason) : (State.holdOrder id reason s).rol = s.rol := rfl
@[simp] theorem State.holdOrder_acc (id : Nat) (reason : HoldReason) : (State.holdOrder id reason s).acc = s.acc := rfl
@[simp] theorem State.holdOrder_jnl (id : Nat) (reason : HoldReason) : (State.holdOrder id reason s).jnl = s.jnl := rfl
@[simp] theorem State.holdOrder_clk (id : Nat) (reason : HoldReason) : (State.holdOrder id reason s).clk = s.clk := rfl
@[simp] theorem State.holdOrder_lbl (id : Nat) (reason : HoldReason) : (State.holdOrder id reason s).lbl = s.lbl := rfl
@[simp] theorem State.holdOrder_prn (id : Nat) (reason : HoldReason) : (State.holdOrder id reason s).prn = s.prn := rfl
@[simp] theorem State.holdOrder_flt (id : Nat) (reason : HoldReason) : (State.holdOrder id reason s).flt = s.flt := rfl
@[simp] theorem State.holdOrder_pending (id : Nat) (reason : HoldReason) : (State.holdOrder id reason s).pending = s.pending := rfl
@[simp] theorem State.holdIfActive_seqs (id : Nat) (reason : HoldReason) : (State.holdIfActive id reason s).seqs = s.seqs := by
  simp only [State.holdIfActive]; (repeat' split) <;> simp
@[simp] theorem State.holdIfActive_drives (id : Nat) (reason : HoldReason) : (State.holdIfActive id reason s).drives = s.drives := by
  simp only [State.holdIfActive]; (repeat' split) <;> simp
@[simp] theorem State.holdIfActive_gen (id : Nat) (reason : HoldReason) : (State.holdIfActive id reason s).gen = s.gen := by
  simp only [State.holdIfActive]; (repeat' split) <;> simp
@[simp] theorem State.holdIfActive_rol (id : Nat) (reason : HoldReason) : (State.holdIfActive id reason s).rol = s.rol := by
  simp only [State.holdIfActive]; (repeat' split) <;> simp
@[simp] theorem State.holdIfActive_acc (id : Nat) (reason : HoldReason) : (State.holdIfActive id reason s).acc = s.acc := by
  simp only [State.holdIfActive]; (repeat' split) <;> simp
@[simp] theorem State.holdIfActive_jnl (id : Nat) (reason : HoldReason) : (State.holdIfActive id reason s).jnl = s.jnl := by
  simp only [State.holdIfActive]; (repeat' split) <;> simp
@[simp] theorem State.holdIfActive_clk (id : Nat) (reason : HoldReason) : (State.holdIfActive id reason s).clk = s.clk := by
  simp only [State.holdIfActive]; (repeat' split) <;> simp
@[simp] theorem State.holdIfActive_lbl (id : Nat) (reason : HoldReason) : (State.holdIfActive id reason s).lbl = s.lbl := by
  simp only [State.holdIfActive]; (repeat' split) <;> simp
@[simp] theorem State.holdIfActive_prn (id : Nat) (reason : HoldReason) : (State.holdIfActive id reason s).prn = s.prn := by
  simp only [State.holdIfActive]; (repeat' split) <;> simp
@[simp] theorem State.holdIfActive_flt (id : Nat) (reason : HoldReason) : (State.holdIfActive id reason s).flt = s.flt := by
  simp only [State.holdIfActive]; (repeat' split) <;> simp
@[simp] theorem State.holdIfActive_pending (id : Nat) (reason : HoldReason) : (State.holdIfActive id reason s).pending = s.pending := by
  simp only [State.holdIfActive]; (repeat' split) <;> simp
@[simp] theorem State.freeOrder_lnk (id : Nat) : (State.freeOrder id s).lnk = s.lnk := by
  simp only [State.freeOrder]; (repeat' split) <;> simp
@[simp] theorem State.freeOrder_seqs (id : Nat) : (State.freeOrder id s).seqs = s.seqs := by
  simp only [State.freeOrder]; (repeat' split) <;> simp
@[simp] theorem State.freeOrder_drives (id : Nat) : (State.freeOrder id s).drives = s.drives := by
  simp only [State.freeOrder]; (repeat' split) <;> simp
@[simp] theorem State.freeOrder_gen (id : Nat) : (State.freeOrder id s).gen = s.gen := by
  simp only [State.freeOrder]; (repeat' split) <;> simp
@[simp] theorem State.freeOrder_rol (id : Nat) : (State.freeOrder id s).rol = s.rol := by
  simp only [State.freeOrder]; (repeat' split) <;> simp
@[simp] theorem State.freeOrder_acc (id : Nat) : (State.freeOrder id s).acc = s.acc := by
  simp only [State.freeOrder]; (repeat' split) <;> simp
@[simp] theorem State.freeOrder_jnl (id : Nat) : (State.freeOrder id s).jnl = s.jnl := by
  simp only [State.freeOrder]; (repeat' split) <;> simp
@[simp] theorem State.freeOrder_clk (id : Nat) : (State.freeOrder id s).clk = s.clk := by
  simp only [State.freeOrder]; (repeat' split) <;> simp
@[simp] theorem State.freeOrder_lbl (id : Nat) : (State.freeOrder id s).lbl = s.lbl := by
  simp only [State.freeOrder]; (repeat' split) <;> simp
@[simp] theorem State.freeOrder_prn (id : Nat) : (State.freeOrder id s).prn = s.prn := by
  simp only [State.freeOrder]; (repeat' split) <;> simp
@[simp] theorem State.freeOrder_flt (id : Nat) : (State.freeOrder id s).flt = s.flt := by
  simp only [State.freeOrder]; (repeat' split) <;> simp
@[simp] theorem State.freeOrder_pending (id : Nat) : (State.freeOrder id s).pending = s.pending := by
  simp only [State.freeOrder]; (repeat' split) <;> simp
@[simp] theorem State.exposeOrder_seqs (id : Nat) : (State.exposeOrder id s).seqs = s.seqs := by
  simp [State.exposeOrder]
@[simp] theorem State.exposeOrder_drives (id : Nat) : (State.exposeOrder id s).drives = s.drives := by
  simp [State.exposeOrder]
@[simp] theorem State.exposeOrder_gen (id : Nat) : (State.exposeOrder id s).gen = s.gen := by
  simp [State.exposeOrder]
@[simp] theorem State.exposeOrder_rol (id : Nat) : (State.exposeOrder id s).rol = s.rol := by
  simp [State.exposeOrder]
@[simp] theorem State.exposeOrder_acc (id : Nat) : (State.exposeOrder id s).acc = s.acc := by
  simp [State.exposeOrder]
@[simp] theorem State.exposeOrder_jnl (id : Nat) : (State.exposeOrder id s).jnl = s.jnl := by
  simp [State.exposeOrder]
@[simp] theorem State.exposeOrder_clk (id : Nat) : (State.exposeOrder id s).clk = s.clk := by
  simp [State.exposeOrder]
@[simp] theorem State.exposeOrder_lbl (id : Nat) : (State.exposeOrder id s).lbl = s.lbl := by
  simp [State.exposeOrder]
@[simp] theorem State.exposeOrder_prn (id : Nat) : (State.exposeOrder id s).prn = s.prn := by
  simp [State.exposeOrder]
@[simp] theorem State.exposeOrder_flt (id : Nat) : (State.exposeOrder id s).flt = s.flt := by
  simp [State.exposeOrder]
@[simp] theorem State.exposeOrder_pending (id : Nat) : (State.exposeOrder id s).pending = s.pending := by
  simp [State.exposeOrder]

/-! ### The journal -/

@[simp] theorem State.reserveSlot_lnk : (State.reserveSlot s).lnk = s.lnk := rfl
@[simp] theorem State.reserveSlot_ord : (State.reserveSlot s).ord = s.ord := rfl
@[simp] theorem State.reserveSlot_seqs : (State.reserveSlot s).seqs = s.seqs := rfl
@[simp] theorem State.reserveSlot_drives : (State.reserveSlot s).drives = s.drives := rfl
@[simp] theorem State.reserveSlot_gen : (State.reserveSlot s).gen = s.gen := rfl
@[simp] theorem State.reserveSlot_rol : (State.reserveSlot s).rol = s.rol := rfl
@[simp] theorem State.reserveSlot_acc : (State.reserveSlot s).acc = s.acc := rfl
@[simp] theorem State.reserveSlot_clk : (State.reserveSlot s).clk = s.clk := rfl
@[simp] theorem State.reserveSlot_lbl : (State.reserveSlot s).lbl = s.lbl := rfl
@[simp] theorem State.reserveSlot_prn : (State.reserveSlot s).prn = s.prn := rfl
@[simp] theorem State.reserveSlot_flt : (State.reserveSlot s).flt = s.flt := rfl
@[simp] theorem State.reserveSlot_pending : (State.reserveSlot s).pending = s.pending := rfl
@[simp] theorem State.roomReport_lnk : (State.roomReport s).lnk = s.lnk := by
  simp only [State.roomReport]; (repeat' split) <;> simp
@[simp] theorem State.roomReport_ord : (State.roomReport s).ord = s.ord := by
  simp only [State.roomReport]; (repeat' split) <;> simp
@[simp] theorem State.roomReport_drives : (State.roomReport s).drives = s.drives := by
  simp only [State.roomReport]; (repeat' split) <;> simp
@[simp] theorem State.roomReport_gen : (State.roomReport s).gen = s.gen := by
  simp only [State.roomReport]; (repeat' split) <;> simp
@[simp] theorem State.roomReport_rol : (State.roomReport s).rol = s.rol := by
  simp only [State.roomReport]; (repeat' split) <;> simp
@[simp] theorem State.roomReport_acc : (State.roomReport s).acc = s.acc := by
  simp only [State.roomReport]; (repeat' split) <;> simp
@[simp] theorem State.roomReport_jnl : (State.roomReport s).jnl = s.jnl := by
  simp only [State.roomReport]; (repeat' split) <;> simp
@[simp] theorem State.roomReport_clk : (State.roomReport s).clk = s.clk := by
  simp only [State.roomReport]; (repeat' split) <;> simp
@[simp] theorem State.roomReport_lbl : (State.roomReport s).lbl = s.lbl := by
  simp only [State.roomReport]; (repeat' split) <;> simp
@[simp] theorem State.roomReport_flt : (State.roomReport s).flt = s.flt := by
  simp only [State.roomReport]; (repeat' split) <;> simp
@[simp] theorem State.roomReport_pending : (State.roomReport s).pending = s.pending := by
  simp only [State.roomReport]; (repeat' split) <;> simp
@[simp] theorem State.handBackSlot_lnk : (State.handBackSlot s).lnk = s.lnk := by
  simp [State.handBackSlot]
@[simp] theorem State.handBackSlot_ord : (State.handBackSlot s).ord = s.ord := by
  simp [State.handBackSlot]
@[simp] theorem State.handBackSlot_drives : (State.handBackSlot s).drives = s.drives := by
  simp [State.handBackSlot]
@[simp] theorem State.handBackSlot_gen : (State.handBackSlot s).gen = s.gen := by
  simp [State.handBackSlot]
@[simp] theorem State.handBackSlot_rol : (State.handBackSlot s).rol = s.rol := by
  simp [State.handBackSlot]
@[simp] theorem State.handBackSlot_acc : (State.handBackSlot s).acc = s.acc := by
  simp [State.handBackSlot]
@[simp] theorem State.handBackSlot_clk : (State.handBackSlot s).clk = s.clk := by
  simp [State.handBackSlot]
@[simp] theorem State.handBackSlot_lbl : (State.handBackSlot s).lbl = s.lbl := by
  simp [State.handBackSlot]
@[simp] theorem State.handBackSlot_flt : (State.handBackSlot s).flt = s.flt := by
  simp [State.handBackSlot]
@[simp] theorem State.handBackSlot_pending : (State.handBackSlot s).pending = s.pending := by
  simp [State.handBackSlot]
@[simp] theorem State.appendEntry_ord (fills : Bool) (e : Nat → JournalEntry) : (State.appendEntry fills e s).ord = s.ord := by
  simp only [State.appendEntry]; (repeat' split) <;> simp
@[simp] theorem State.appendEntry_seqs (fills : Bool) (e : Nat → JournalEntry) : (State.appendEntry fills e s).seqs = s.seqs := by
  simp only [State.appendEntry]; (repeat' split) <;> simp
@[simp] theorem State.appendEntry_drives (fills : Bool) (e : Nat → JournalEntry) : (State.appendEntry fills e s).drives = s.drives := by
  simp only [State.appendEntry]; (repeat' split) <;> simp
@[simp] theorem State.appendEntry_gen (fills : Bool) (e : Nat → JournalEntry) : (State.appendEntry fills e s).gen = s.gen := by
  simp only [State.appendEntry]; (repeat' split) <;> simp
@[simp] theorem State.appendEntry_rol (fills : Bool) (e : Nat → JournalEntry) : (State.appendEntry fills e s).rol = s.rol := by
  simp only [State.appendEntry]; (repeat' split) <;> simp
@[simp] theorem State.appendEntry_acc (fills : Bool) (e : Nat → JournalEntry) : (State.appendEntry fills e s).acc = s.acc := by
  simp only [State.appendEntry]; (repeat' split) <;> simp
@[simp] theorem State.appendEntry_clk (fills : Bool) (e : Nat → JournalEntry) : (State.appendEntry fills e s).clk = s.clk := by
  simp only [State.appendEntry]; (repeat' split) <;> simp
@[simp] theorem State.appendEntry_lbl (fills : Bool) (e : Nat → JournalEntry) : (State.appendEntry fills e s).lbl = s.lbl := by
  simp only [State.appendEntry]; (repeat' split) <;> simp
@[simp] theorem State.appendEntry_prn (fills : Bool) (e : Nat → JournalEntry) : (State.appendEntry fills e s).prn = s.prn := by
  simp only [State.appendEntry]; (repeat' split) <;> simp
@[simp] theorem State.appendEntry_flt (fills : Bool) (e : Nat → JournalEntry) : (State.appendEntry fills e s).flt = s.flt := by
  simp only [State.appendEntry]; (repeat' split) <;> simp
@[simp] theorem State.appendEntry_pending (fills : Bool) (e : Nat → JournalEntry) : (State.appendEntry fills e s).pending = s.pending := by
  simp only [State.appendEntry]; (repeat' split) <;> simp

/-! ### The accounts -/

@[simp] theorem State.modAccount_lnk (slot : Nat) (f : Account → Account) : (State.modAccount slot f s).lnk = s.lnk := rfl
@[simp] theorem State.modAccount_ord (slot : Nat) (f : Account → Account) : (State.modAccount slot f s).ord = s.ord := rfl
@[simp] theorem State.modAccount_seqs (slot : Nat) (f : Account → Account) : (State.modAccount slot f s).seqs = s.seqs := rfl
@[simp] theorem State.modAccount_drives (slot : Nat) (f : Account → Account) : (State.modAccount slot f s).drives = s.drives := rfl
@[simp] theorem State.modAccount_gen (slot : Nat) (f : Account → Account) : (State.modAccount slot f s).gen = s.gen := rfl
@[simp] theorem State.modAccount_rol (slot : Nat) (f : Account → Account) : (State.modAccount slot f s).rol = s.rol := rfl
@[simp] theorem State.modAccount_jnl (slot : Nat) (f : Account → Account) : (State.modAccount slot f s).jnl = s.jnl := rfl
@[simp] theorem State.modAccount_clk (slot : Nat) (f : Account → Account) : (State.modAccount slot f s).clk = s.clk := rfl
@[simp] theorem State.modAccount_lbl (slot : Nat) (f : Account → Account) : (State.modAccount slot f s).lbl = s.lbl := rfl
@[simp] theorem State.modAccount_prn (slot : Nat) (f : Account → Account) : (State.modAccount slot f s).prn = s.prn := rfl
@[simp] theorem State.modAccount_flt (slot : Nat) (f : Account → Account) : (State.modAccount slot f s).flt = s.flt := rfl
@[simp] theorem State.modAccount_pending (slot : Nat) (f : Account → Account) : (State.modAccount slot f s).pending = s.pending := rfl
@[simp] theorem State.reserveMoney_lnk (slot cost : Nat) : (State.reserveMoney slot cost s).lnk = s.lnk := rfl
@[simp] theorem State.reserveMoney_ord (slot cost : Nat) : (State.reserveMoney slot cost s).ord = s.ord := rfl
@[simp] theorem State.reserveMoney_seqs (slot cost : Nat) : (State.reserveMoney slot cost s).seqs = s.seqs := rfl
@[simp] theorem State.reserveMoney_drives (slot cost : Nat) : (State.reserveMoney slot cost s).drives = s.drives := rfl
@[simp] theorem State.reserveMoney_gen (slot cost : Nat) : (State.reserveMoney slot cost s).gen = s.gen := rfl
@[simp] theorem State.reserveMoney_rol (slot cost : Nat) : (State.reserveMoney slot cost s).rol = s.rol := rfl
@[simp] theorem State.reserveMoney_jnl (slot cost : Nat) : (State.reserveMoney slot cost s).jnl = s.jnl := rfl
@[simp] theorem State.reserveMoney_clk (slot cost : Nat) : (State.reserveMoney slot cost s).clk = s.clk := rfl
@[simp] theorem State.reserveMoney_lbl (slot cost : Nat) : (State.reserveMoney slot cost s).lbl = s.lbl := rfl
@[simp] theorem State.reserveMoney_prn (slot cost : Nat) : (State.reserveMoney slot cost s).prn = s.prn := rfl
@[simp] theorem State.reserveMoney_flt (slot cost : Nat) : (State.reserveMoney slot cost s).flt = s.flt := rfl
@[simp] theorem State.reserveMoney_pending (slot cost : Nat) : (State.reserveMoney slot cost s).pending = s.pending := rfl
@[simp] theorem State.releaseMoney_lnk (slot amount : Nat) : (State.releaseMoney slot amount s).lnk = s.lnk := rfl
@[simp] theorem State.releaseMoney_ord (slot amount : Nat) : (State.releaseMoney slot amount s).ord = s.ord := rfl
@[simp] theorem State.releaseMoney_seqs (slot amount : Nat) : (State.releaseMoney slot amount s).seqs = s.seqs := rfl
@[simp] theorem State.releaseMoney_drives (slot amount : Nat) : (State.releaseMoney slot amount s).drives = s.drives := rfl
@[simp] theorem State.releaseMoney_gen (slot amount : Nat) : (State.releaseMoney slot amount s).gen = s.gen := rfl
@[simp] theorem State.releaseMoney_rol (slot amount : Nat) : (State.releaseMoney slot amount s).rol = s.rol := rfl
@[simp] theorem State.releaseMoney_jnl (slot amount : Nat) : (State.releaseMoney slot amount s).jnl = s.jnl := rfl
@[simp] theorem State.releaseMoney_clk (slot amount : Nat) : (State.releaseMoney slot amount s).clk = s.clk := rfl
@[simp] theorem State.releaseMoney_lbl (slot amount : Nat) : (State.releaseMoney slot amount s).lbl = s.lbl := rfl
@[simp] theorem State.releaseMoney_prn (slot amount : Nat) : (State.releaseMoney slot amount s).prn = s.prn := rfl
@[simp] theorem State.releaseMoney_flt (slot amount : Nat) : (State.releaseMoney slot amount s).flt = s.flt := rfl
@[simp] theorem State.releaseMoney_pending (slot amount : Nat) : (State.releaseMoney slot amount s).pending = s.pending := rfl
@[simp] theorem State.chargeAccount_lnk (slot rate : Nat) : (State.chargeAccount slot rate s).lnk = s.lnk := by
  simp only [State.chargeAccount]; (repeat' split) <;> simp
@[simp] theorem State.chargeAccount_ord (slot rate : Nat) : (State.chargeAccount slot rate s).ord = s.ord := by
  simp only [State.chargeAccount]; (repeat' split) <;> simp
@[simp] theorem State.chargeAccount_seqs (slot rate : Nat) : (State.chargeAccount slot rate s).seqs = s.seqs := by
  simp only [State.chargeAccount]; (repeat' split) <;> simp
@[simp] theorem State.chargeAccount_drives (slot rate : Nat) : (State.chargeAccount slot rate s).drives = s.drives := by
  simp only [State.chargeAccount]; (repeat' split) <;> simp
@[simp] theorem State.chargeAccount_gen (slot rate : Nat) : (State.chargeAccount slot rate s).gen = s.gen := by
  simp only [State.chargeAccount]; (repeat' split) <;> simp
@[simp] theorem State.chargeAccount_rol (slot rate : Nat) : (State.chargeAccount slot rate s).rol = s.rol := by
  simp only [State.chargeAccount]; (repeat' split) <;> simp
@[simp] theorem State.chargeAccount_jnl (slot rate : Nat) : (State.chargeAccount slot rate s).jnl = s.jnl := by
  simp only [State.chargeAccount]; (repeat' split) <;> simp
@[simp] theorem State.chargeAccount_clk (slot rate : Nat) : (State.chargeAccount slot rate s).clk = s.clk := by
  simp only [State.chargeAccount]; (repeat' split) <;> simp
@[simp] theorem State.chargeAccount_lbl (slot rate : Nat) : (State.chargeAccount slot rate s).lbl = s.lbl := by
  simp only [State.chargeAccount]; (repeat' split) <;> simp
@[simp] theorem State.chargeAccount_prn (slot rate : Nat) : (State.chargeAccount slot rate s).prn = s.prn := by
  simp only [State.chargeAccount]; (repeat' split) <;> simp
@[simp] theorem State.chargeAccount_flt (slot rate : Nat) : (State.chargeAccount slot rate s).flt = s.flt := by
  simp only [State.chargeAccount]; (repeat' split) <;> simp
@[simp] theorem State.chargeAccount_pending (slot rate : Nat) : (State.chargeAccount slot rate s).pending = s.pending := by
  simp only [State.chargeAccount]; (repeat' split) <;> simp
@[simp] theorem State.mountAccount_lnk (slot rate : Nat) : (State.mountAccount slot rate s).lnk = s.lnk := by
  simp only [State.mountAccount]; (repeat' split) <;> simp
@[simp] theorem State.mountAccount_ord (slot rate : Nat) : (State.mountAccount slot rate s).ord = s.ord := by
  simp only [State.mountAccount]; (repeat' split) <;> simp
@[simp] theorem State.mountAccount_seqs (slot rate : Nat) : (State.mountAccount slot rate s).seqs = s.seqs := by
  simp only [State.mountAccount]; (repeat' split) <;> simp
@[simp] theorem State.mountAccount_drives (slot rate : Nat) : (State.mountAccount slot rate s).drives = s.drives := by
  simp only [State.mountAccount]; (repeat' split) <;> simp
@[simp] theorem State.mountAccount_gen (slot rate : Nat) : (State.mountAccount slot rate s).gen = s.gen := by
  simp only [State.mountAccount]; (repeat' split) <;> simp
@[simp] theorem State.mountAccount_rol (slot rate : Nat) : (State.mountAccount slot rate s).rol = s.rol := by
  simp only [State.mountAccount]; (repeat' split) <;> simp
@[simp] theorem State.mountAccount_jnl (slot rate : Nat) : (State.mountAccount slot rate s).jnl = s.jnl := by
  simp only [State.mountAccount]; (repeat' split) <;> simp
@[simp] theorem State.mountAccount_clk (slot rate : Nat) : (State.mountAccount slot rate s).clk = s.clk := by
  simp only [State.mountAccount]; (repeat' split) <;> simp
@[simp] theorem State.mountAccount_lbl (slot rate : Nat) : (State.mountAccount slot rate s).lbl = s.lbl := by
  simp only [State.mountAccount]; (repeat' split) <;> simp
@[simp] theorem State.mountAccount_prn (slot rate : Nat) : (State.mountAccount slot rate s).prn = s.prn := by
  simp only [State.mountAccount]; (repeat' split) <;> simp
@[simp] theorem State.mountAccount_flt (slot rate : Nat) : (State.mountAccount slot rate s).flt = s.flt := by
  simp only [State.mountAccount]; (repeat' split) <;> simp
@[simp] theorem State.mountAccount_pending (slot rate : Nat) : (State.mountAccount slot rate s).pending = s.pending := by
  simp only [State.mountAccount]; (repeat' split) <;> simp
@[simp] theorem State.adjustAccount_lnk (slot : Nat) (amount : Int) : (State.adjustAccount slot amount s).lnk = s.lnk := by
  simp only [State.adjustAccount]; (repeat' split) <;> simp
@[simp] theorem State.adjustAccount_ord (slot : Nat) (amount : Int) : (State.adjustAccount slot amount s).ord = s.ord := by
  simp only [State.adjustAccount]; (repeat' split) <;> simp
@[simp] theorem State.adjustAccount_seqs (slot : Nat) (amount : Int) : (State.adjustAccount slot amount s).seqs = s.seqs := by
  simp only [State.adjustAccount]; (repeat' split) <;> simp
@[simp] theorem State.adjustAccount_drives (slot : Nat) (amount : Int) : (State.adjustAccount slot amount s).drives = s.drives := by
  simp only [State.adjustAccount]; (repeat' split) <;> simp
@[simp] theorem State.adjustAccount_gen (slot : Nat) (amount : Int) : (State.adjustAccount slot amount s).gen = s.gen := by
  simp only [State.adjustAccount]; (repeat' split) <;> simp
@[simp] theorem State.adjustAccount_rol (slot : Nat) (amount : Int) : (State.adjustAccount slot amount s).rol = s.rol := by
  simp only [State.adjustAccount]; (repeat' split) <;> simp
@[simp] theorem State.adjustAccount_jnl (slot : Nat) (amount : Int) : (State.adjustAccount slot amount s).jnl = s.jnl := by
  simp only [State.adjustAccount]; (repeat' split) <;> simp
@[simp] theorem State.adjustAccount_clk (slot : Nat) (amount : Int) : (State.adjustAccount slot amount s).clk = s.clk := by
  simp only [State.adjustAccount]; (repeat' split) <;> simp
@[simp] theorem State.adjustAccount_lbl (slot : Nat) (amount : Int) : (State.adjustAccount slot amount s).lbl = s.lbl := by
  simp only [State.adjustAccount]; (repeat' split) <;> simp
@[simp] theorem State.adjustAccount_prn (slot : Nat) (amount : Int) : (State.adjustAccount slot amount s).prn = s.prn := by
  simp only [State.adjustAccount]; (repeat' split) <;> simp
@[simp] theorem State.adjustAccount_flt (slot : Nat) (amount : Int) : (State.adjustAccount slot amount s).flt = s.flt := by
  simp only [State.adjustAccount]; (repeat' split) <;> simp
@[simp] theorem State.adjustAccount_pending (slot : Nat) (amount : Int) : (State.adjustAccount slot amount s).pending = s.pending := by
  simp only [State.adjustAccount]; (repeat' split) <;> simp

/-! ### Fault capture -/

@[simp] theorem State.capture_ord (u : Unit5) (c : Capture) : (State.capture u c s).ord = s.ord := by
  simp only [State.capture]; (repeat' split) <;> simp
@[simp] theorem State.capture_seqs (u : Unit5) (c : Capture) : (State.capture u c s).seqs = s.seqs := by
  simp only [State.capture]; (repeat' split) <;> simp
@[simp] theorem State.capture_drives (u : Unit5) (c : Capture) : (State.capture u c s).drives = s.drives := by
  simp only [State.capture]; (repeat' split) <;> simp
@[simp] theorem State.capture_gen (u : Unit5) (c : Capture) : (State.capture u c s).gen = s.gen := by
  simp only [State.capture]; (repeat' split) <;> simp
@[simp] theorem State.capture_rol (u : Unit5) (c : Capture) : (State.capture u c s).rol = s.rol := by
  simp only [State.capture]; (repeat' split) <;> simp
@[simp] theorem State.capture_acc (u : Unit5) (c : Capture) : (State.capture u c s).acc = s.acc := by
  simp only [State.capture]; (repeat' split) <;> simp
@[simp] theorem State.capture_jnl (u : Unit5) (c : Capture) : (State.capture u c s).jnl = s.jnl := by
  simp only [State.capture]; (repeat' split) <;> simp
@[simp] theorem State.capture_clk (u : Unit5) (c : Capture) : (State.capture u c s).clk = s.clk := by
  simp only [State.capture]; (repeat' split) <;> simp
@[simp] theorem State.capture_lbl (u : Unit5) (c : Capture) : (State.capture u c s).lbl = s.lbl := by
  simp only [State.capture]; (repeat' split) <;> simp
@[simp] theorem State.capture_prn (u : Unit5) (c : Capture) : (State.capture u c s).prn = s.prn := by
  simp only [State.capture]; (repeat' split) <;> simp
@[simp] theorem State.capture_pending (u : Unit5) (c : Capture) : (State.capture u c s).pending = s.pending := by
  simp only [State.capture]; (repeat' split) <;> simp

/-! ### Rolls and frames -/

@[simp] theorem State.modRoll_lnk (n : Nat) (f : Roll → Roll) : (State.modRoll n f s).lnk = s.lnk := rfl
@[simp] theorem State.modRoll_ord (n : Nat) (f : Roll → Roll) : (State.modRoll n f s).ord = s.ord := rfl
@[simp] theorem State.modRoll_seqs (n : Nat) (f : Roll → Roll) : (State.modRoll n f s).seqs = s.seqs := rfl
@[simp] theorem State.modRoll_drives (n : Nat) (f : Roll → Roll) : (State.modRoll n f s).drives = s.drives := rfl
@[simp] theorem State.modRoll_gen (n : Nat) (f : Roll → Roll) : (State.modRoll n f s).gen = s.gen := rfl
@[simp] theorem State.modRoll_acc (n : Nat) (f : Roll → Roll) : (State.modRoll n f s).acc = s.acc := rfl
@[simp] theorem State.modRoll_jnl (n : Nat) (f : Roll → Roll) : (State.modRoll n f s).jnl = s.jnl := rfl
@[simp] theorem State.modRoll_clk (n : Nat) (f : Roll → Roll) : (State.modRoll n f s).clk = s.clk := rfl
@[simp] theorem State.modRoll_lbl (n : Nat) (f : Roll → Roll) : (State.modRoll n f s).lbl = s.lbl := rfl
@[simp] theorem State.modRoll_prn (n : Nat) (f : Roll → Roll) : (State.modRoll n f s).prn = s.prn := rfl
@[simp] theorem State.modRoll_flt (n : Nat) (f : Roll → Roll) : (State.modRoll n f s).flt = s.flt := rfl
@[simp] theorem State.modRoll_pending (n : Nat) (f : Roll → Roll) : (State.modRoll n f s).pending = s.pending := rfl
@[simp] theorem State.modFrame_lnk (n k : Nat) (f : Frame → Frame) : (State.modFrame n k f s).lnk = s.lnk := rfl
@[simp] theorem State.modFrame_ord (n k : Nat) (f : Frame → Frame) : (State.modFrame n k f s).ord = s.ord := rfl
@[simp] theorem State.modFrame_seqs (n k : Nat) (f : Frame → Frame) : (State.modFrame n k f s).seqs = s.seqs := rfl
@[simp] theorem State.modFrame_drives (n k : Nat) (f : Frame → Frame) : (State.modFrame n k f s).drives = s.drives := rfl
@[simp] theorem State.modFrame_gen (n k : Nat) (f : Frame → Frame) : (State.modFrame n k f s).gen = s.gen := rfl
@[simp] theorem State.modFrame_acc (n k : Nat) (f : Frame → Frame) : (State.modFrame n k f s).acc = s.acc := rfl
@[simp] theorem State.modFrame_jnl (n k : Nat) (f : Frame → Frame) : (State.modFrame n k f s).jnl = s.jnl := rfl
@[simp] theorem State.modFrame_clk (n k : Nat) (f : Frame → Frame) : (State.modFrame n k f s).clk = s.clk := rfl
@[simp] theorem State.modFrame_lbl (n k : Nat) (f : Frame → Frame) : (State.modFrame n k f s).lbl = s.lbl := rfl
@[simp] theorem State.modFrame_prn (n k : Nat) (f : Frame → Frame) : (State.modFrame n k f s).prn = s.prn := rfl
@[simp] theorem State.modFrame_flt (n k : Nat) (f : Frame → Frame) : (State.modFrame n k f s).flt = s.flt := rfl
@[simp] theorem State.modFrame_pending (n k : Nat) (f : Frame → Frame) : (State.modFrame n k f s).pending = s.pending := rfl
@[simp] theorem State.reserveRecords_lnk (k : Nat) : (State.reserveRecords k s).lnk = s.lnk := rfl
@[simp] theorem State.reserveRecords_ord (k : Nat) : (State.reserveRecords k s).ord = s.ord := rfl
@[simp] theorem State.reserveRecords_seqs (k : Nat) : (State.reserveRecords k s).seqs = s.seqs := rfl
@[simp] theorem State.reserveRecords_drives (k : Nat) : (State.reserveRecords k s).drives = s.drives := rfl
@[simp] theorem State.reserveRecords_gen (k : Nat) : (State.reserveRecords k s).gen = s.gen := rfl
@[simp] theorem State.reserveRecords_acc (k : Nat) : (State.reserveRecords k s).acc = s.acc := rfl
@[simp] theorem State.reserveRecords_jnl (k : Nat) : (State.reserveRecords k s).jnl = s.jnl := rfl
@[simp] theorem State.reserveRecords_clk (k : Nat) : (State.reserveRecords k s).clk = s.clk := rfl
@[simp] theorem State.reserveRecords_lbl (k : Nat) : (State.reserveRecords k s).lbl = s.lbl := rfl
@[simp] theorem State.reserveRecords_prn (k : Nat) : (State.reserveRecords k s).prn = s.prn := rfl
@[simp] theorem State.reserveRecords_flt (k : Nat) : (State.reserveRecords k s).flt = s.flt := rfl
@[simp] theorem State.reserveRecords_pending (k : Nat) : (State.reserveRecords k s).pending = s.pending := rfl
@[simp] theorem State.returnRecords_lnk (k : Nat) : (State.returnRecords k s).lnk = s.lnk := rfl
@[simp] theorem State.returnRecords_ord (k : Nat) : (State.returnRecords k s).ord = s.ord := rfl
@[simp] theorem State.returnRecords_seqs (k : Nat) : (State.returnRecords k s).seqs = s.seqs := rfl
@[simp] theorem State.returnRecords_drives (k : Nat) : (State.returnRecords k s).drives = s.drives := rfl
@[simp] theorem State.returnRecords_gen (k : Nat) : (State.returnRecords k s).gen = s.gen := rfl
@[simp] theorem State.returnRecords_acc (k : Nat) : (State.returnRecords k s).acc = s.acc := rfl
@[simp] theorem State.returnRecords_jnl (k : Nat) : (State.returnRecords k s).jnl = s.jnl := rfl
@[simp] theorem State.returnRecords_clk (k : Nat) : (State.returnRecords k s).clk = s.clk := rfl
@[simp] theorem State.returnRecords_lbl (k : Nat) : (State.returnRecords k s).lbl = s.lbl := rfl
@[simp] theorem State.returnRecords_prn (k : Nat) : (State.returnRecords k s).prn = s.prn := rfl
@[simp] theorem State.returnRecords_flt (k : Nat) : (State.returnRecords k s).flt = s.flt := rfl
@[simp] theorem State.returnRecords_pending (k : Nat) : (State.returnRecords k s).pending = s.pending := rfl
@[simp] theorem State.recordFrame_lnk (r : Roll) (kind : FrameKind) (e : Option Exposure) : (State.recordFrame r kind e s).lnk = s.lnk := rfl
@[simp] theorem State.recordFrame_ord (r : Roll) (kind : FrameKind) (e : Option Exposure) : (State.recordFrame r kind e s).ord = s.ord := rfl
@[simp] theorem State.recordFrame_seqs (r : Roll) (kind : FrameKind) (e : Option Exposure) : (State.recordFrame r kind e s).seqs = s.seqs := rfl
@[simp] theorem State.recordFrame_drives (r : Roll) (kind : FrameKind) (e : Option Exposure) : (State.recordFrame r kind e s).drives = s.drives := rfl
@[simp] theorem State.recordFrame_gen (r : Roll) (kind : FrameKind) (e : Option Exposure) : (State.recordFrame r kind e s).gen = s.gen := rfl
@[simp] theorem State.recordFrame_acc (r : Roll) (kind : FrameKind) (e : Option Exposure) : (State.recordFrame r kind e s).acc = s.acc := rfl
@[simp] theorem State.recordFrame_jnl (r : Roll) (kind : FrameKind) (e : Option Exposure) : (State.recordFrame r kind e s).jnl = s.jnl := rfl
@[simp] theorem State.recordFrame_clk (r : Roll) (kind : FrameKind) (e : Option Exposure) : (State.recordFrame r kind e s).clk = s.clk := rfl
@[simp] theorem State.recordFrame_lbl (r : Roll) (kind : FrameKind) (e : Option Exposure) : (State.recordFrame r kind e s).lbl = s.lbl := rfl
@[simp] theorem State.recordFrame_prn (r : Roll) (kind : FrameKind) (e : Option Exposure) : (State.recordFrame r kind e s).prn = s.prn := rfl
@[simp] theorem State.recordFrame_flt (r : Roll) (kind : FrameKind) (e : Option Exposure) : (State.recordFrame r kind e s).flt = s.flt := rfl
@[simp] theorem State.recordFrame_pending (r : Roll) (kind : FrameKind) (e : Option Exposure) : (State.recordFrame r kind e s).pending = s.pending := rfl
@[simp] theorem State.testLabelled_ord (n : Nat) (before : Bool) : (State.testLabelled n before s).ord = s.ord := by
  simp only [State.testLabelled]; (repeat' split) <;> simp
@[simp] theorem State.testLabelled_seqs (n : Nat) (before : Bool) : (State.testLabelled n before s).seqs = s.seqs := by
  simp only [State.testLabelled]; (repeat' split) <;> simp
@[simp] theorem State.testLabelled_drives (n : Nat) (before : Bool) : (State.testLabelled n before s).drives = s.drives := by
  simp only [State.testLabelled]; (repeat' split) <;> simp
@[simp] theorem State.testLabelled_gen (n : Nat) (before : Bool) : (State.testLabelled n before s).gen = s.gen := by
  simp only [State.testLabelled]; (repeat' split) <;> simp
@[simp] theorem State.testLabelled_rol (n : Nat) (before : Bool) : (State.testLabelled n before s).rol = s.rol := by
  simp only [State.testLabelled]; (repeat' split) <;> simp
@[simp] theorem State.testLabelled_acc (n : Nat) (before : Bool) : (State.testLabelled n before s).acc = s.acc := by
  simp only [State.testLabelled]; (repeat' split) <;> simp
@[simp] theorem State.testLabelled_jnl (n : Nat) (before : Bool) : (State.testLabelled n before s).jnl = s.jnl := by
  simp only [State.testLabelled]; (repeat' split) <;> simp
@[simp] theorem State.testLabelled_clk (n : Nat) (before : Bool) : (State.testLabelled n before s).clk = s.clk := by
  simp only [State.testLabelled]; (repeat' split) <;> simp
@[simp] theorem State.testLabelled_lbl (n : Nat) (before : Bool) : (State.testLabelled n before s).lbl = s.lbl := by
  simp only [State.testLabelled]; (repeat' split) <;> simp
@[simp] theorem State.testLabelled_prn (n : Nat) (before : Bool) : (State.testLabelled n before s).prn = s.prn := by
  simp only [State.testLabelled]; (repeat' split) <;> simp
@[simp] theorem State.testLabelled_flt (n : Nat) (before : Bool) : (State.testLabelled n before s).flt = s.flt := by
  simp only [State.testLabelled]; (repeat' split) <;> simp
@[simp] theorem State.testLabelled_pending (n : Nat) (before : Bool) : (State.testLabelled n before s).pending = s.pending := by
  simp only [State.testLabelled]; (repeat' split) <;> simp
@[simp] theorem State.rollFull_ord (r : Roll) (st : Station) : (State.rollFull r st s).ord = s.ord := rfl
@[simp] theorem State.rollFull_seqs (r : Roll) (st : Station) : (State.rollFull r st s).seqs = s.seqs := rfl
@[simp] theorem State.rollFull_drives (r : Roll) (st : Station) : (State.rollFull r st s).drives = s.drives := rfl
@[simp] theorem State.rollFull_gen (r : Roll) (st : Station) : (State.rollFull r st s).gen = s.gen := rfl
@[simp] theorem State.rollFull_acc (r : Roll) (st : Station) : (State.rollFull r st s).acc = s.acc := rfl
@[simp] theorem State.rollFull_jnl (r : Roll) (st : Station) : (State.rollFull r st s).jnl = s.jnl := rfl
@[simp] theorem State.rollFull_clk (r : Roll) (st : Station) : (State.rollFull r st s).clk = s.clk := rfl
@[simp] theorem State.rollFull_lbl (r : Roll) (st : Station) : (State.rollFull r st s).lbl = s.lbl := rfl
@[simp] theorem State.rollFull_prn (r : Roll) (st : Station) : (State.rollFull r st s).prn = s.prn := rfl
@[simp] theorem State.rollFull_flt (r : Roll) (st : Station) : (State.rollFull r st s).flt = s.flt := rfl
@[simp] theorem State.rollFull_pending (r : Roll) (st : Station) : (State.rollFull r st s).pending = s.pending := rfl
@[simp] theorem State.rollOut_ord (n : Nat) (st : Station) (f : Roll → Roll) : (State.rollOut n st f s).ord = s.ord := by
  simp only [State.rollOut]; (repeat' split) <;> simp
@[simp] theorem State.rollOut_seqs (n : Nat) (st : Station) (f : Roll → Roll) : (State.rollOut n st f s).seqs = s.seqs := by
  simp only [State.rollOut]; (repeat' split) <;> simp
@[simp] theorem State.rollOut_drives (n : Nat) (st : Station) (f : Roll → Roll) : (State.rollOut n st f s).drives = s.drives := by
  simp only [State.rollOut]; (repeat' split) <;> simp
@[simp] theorem State.rollOut_gen (n : Nat) (st : Station) (f : Roll → Roll) : (State.rollOut n st f s).gen = s.gen := by
  simp only [State.rollOut]; (repeat' split) <;> simp
@[simp] theorem State.rollOut_acc (n : Nat) (st : Station) (f : Roll → Roll) : (State.rollOut n st f s).acc = s.acc := by
  simp only [State.rollOut]; (repeat' split) <;> simp
@[simp] theorem State.rollOut_jnl (n : Nat) (st : Station) (f : Roll → Roll) : (State.rollOut n st f s).jnl = s.jnl := by
  simp only [State.rollOut]; (repeat' split) <;> simp
@[simp] theorem State.rollOut_clk (n : Nat) (st : Station) (f : Roll → Roll) : (State.rollOut n st f s).clk = s.clk := by
  simp only [State.rollOut]; (repeat' split) <;> simp
@[simp] theorem State.rollOut_lbl (n : Nat) (st : Station) (f : Roll → Roll) : (State.rollOut n st f s).lbl = s.lbl := by
  simp only [State.rollOut]; (repeat' split) <;> simp
@[simp] theorem State.rollOut_prn (n : Nat) (st : Station) (f : Roll → Roll) : (State.rollOut n st f s).prn = s.prn := by
  simp only [State.rollOut]; (repeat' split) <;> simp
@[simp] theorem State.rollOut_flt (n : Nat) (st : Station) (f : Roll → Roll) : (State.rollOut n st f s).flt = s.flt := by
  simp only [State.rollOut]; (repeat' split) <;> simp
@[simp] theorem State.rollOut_pending (n : Nat) (st : Station) (f : Roll → Roll) : (State.rollOut n st f s).pending = s.pending := by
  simp only [State.rollOut]; (repeat' split) <;> simp

/-! ### The generator -/

@[simp] theorem State.modContext_lnk (st : Station) (f : ItemContext → ItemContext) : (State.modContext st f s).lnk = s.lnk := rfl
@[simp] theorem State.modContext_ord (st : Station) (f : ItemContext → ItemContext) : (State.modContext st f s).ord = s.ord := rfl
@[simp] theorem State.modContext_drives (st : Station) (f : ItemContext → ItemContext) : (State.modContext st f s).drives = s.drives := rfl
@[simp] theorem State.modContext_gen (st : Station) (f : ItemContext → ItemContext) : (State.modContext st f s).gen = s.gen := rfl
@[simp] theorem State.modContext_rol (st : Station) (f : ItemContext → ItemContext) : (State.modContext st f s).rol = s.rol := rfl
@[simp] theorem State.modContext_acc (st : Station) (f : ItemContext → ItemContext) : (State.modContext st f s).acc = s.acc := rfl
@[simp] theorem State.modContext_jnl (st : Station) (f : ItemContext → ItemContext) : (State.modContext st f s).jnl = s.jnl := rfl
@[simp] theorem State.modContext_clk (st : Station) (f : ItemContext → ItemContext) : (State.modContext st f s).clk = s.clk := rfl
@[simp] theorem State.modContext_lbl (st : Station) (f : ItemContext → ItemContext) : (State.modContext st f s).lbl = s.lbl := rfl
@[simp] theorem State.modContext_prn (st : Station) (f : ItemContext → ItemContext) : (State.modContext st f s).prn = s.prn := rfl
@[simp] theorem State.modContext_flt (st : Station) (f : ItemContext → ItemContext) : (State.modContext st f s).flt = s.flt := rfl
@[simp] theorem State.modContext_pending (st : Station) (f : ItemContext → ItemContext) : (State.modContext st f s).pending = s.pending := rfl
@[simp] theorem State.giveFire_lnk (p : Nat) : (State.giveFire p s).lnk = s.lnk := rfl
@[simp] theorem State.giveFire_ord (p : Nat) : (State.giveFire p s).ord = s.ord := rfl
@[simp] theorem State.giveFire_seqs (p : Nat) : (State.giveFire p s).seqs = s.seqs := rfl
@[simp] theorem State.giveFire_drives (p : Nat) : (State.giveFire p s).drives = s.drives := rfl
@[simp] theorem State.giveFire_rol (p : Nat) : (State.giveFire p s).rol = s.rol := rfl
@[simp] theorem State.giveFire_acc (p : Nat) : (State.giveFire p s).acc = s.acc := rfl
@[simp] theorem State.giveFire_jnl (p : Nat) : (State.giveFire p s).jnl = s.jnl := rfl
@[simp] theorem State.giveFire_clk (p : Nat) : (State.giveFire p s).clk = s.clk := rfl
@[simp] theorem State.giveFire_lbl (p : Nat) : (State.giveFire p s).lbl = s.lbl := rfl
@[simp] theorem State.giveFire_prn (p : Nat) : (State.giveFire p s).prn = s.prn := rfl
@[simp] theorem State.giveFire_flt (p : Nat) : (State.giveFire p s).flt = s.flt := rfl
@[simp] theorem State.giveFire_pending (p : Nat) : (State.giveFire p s).pending = s.pending := rfl
@[simp] theorem State.askFire_lnk (st : Station) (p : Nat) : (State.askFire st p s).lnk = s.lnk := by
  simp only [State.askFire]; (repeat' split) <;> simp
@[simp] theorem State.askFire_ord (st : Station) (p : Nat) : (State.askFire st p s).ord = s.ord := by
  simp only [State.askFire]; (repeat' split) <;> simp
@[simp] theorem State.askFire_seqs (st : Station) (p : Nat) : (State.askFire st p s).seqs = s.seqs := by
  simp only [State.askFire]; (repeat' split) <;> simp
@[simp] theorem State.askFire_drives (st : Station) (p : Nat) : (State.askFire st p s).drives = s.drives := by
  simp only [State.askFire]; (repeat' split) <;> simp
@[simp] theorem State.askFire_rol (st : Station) (p : Nat) : (State.askFire st p s).rol = s.rol := by
  simp only [State.askFire]; (repeat' split) <;> simp
@[simp] theorem State.askFire_acc (st : Station) (p : Nat) : (State.askFire st p s).acc = s.acc := by
  simp only [State.askFire]; (repeat' split) <;> simp
@[simp] theorem State.askFire_jnl (st : Station) (p : Nat) : (State.askFire st p s).jnl = s.jnl := by
  simp only [State.askFire]; (repeat' split) <;> simp
@[simp] theorem State.askFire_clk (st : Station) (p : Nat) : (State.askFire st p s).clk = s.clk := by
  simp only [State.askFire]; (repeat' split) <;> simp
@[simp] theorem State.askFire_lbl (st : Station) (p : Nat) : (State.askFire st p s).lbl = s.lbl := by
  simp only [State.askFire]; (repeat' split) <;> simp
@[simp] theorem State.askFire_prn (st : Station) (p : Nat) : (State.askFire st p s).prn = s.prn := by
  simp only [State.askFire]; (repeat' split) <;> simp
@[simp] theorem State.askFire_flt (st : Station) (p : Nat) : (State.askFire st p s).flt = s.flt := by
  simp only [State.askFire]; (repeat' split) <;> simp
@[simp] theorem State.askFire_pending (st : Station) (p : Nat) : (State.askFire st p s).pending = s.pending := by
  simp only [State.askFire]; (repeat' split) <;> simp
@[simp] theorem State.askPop_lnk (st : Station) : (State.askPop st s).lnk = s.lnk := by
  simp only [State.askPop]; (repeat' split) <;> simp
@[simp] theorem State.askPop_ord (st : Station) : (State.askPop st s).ord = s.ord := by
  simp only [State.askPop]; (repeat' split) <;> simp
@[simp] theorem State.askPop_drives (st : Station) : (State.askPop st s).drives = s.drives := by
  simp only [State.askPop]; (repeat' split) <;> simp
@[simp] theorem State.askPop_rol (st : Station) : (State.askPop st s).rol = s.rol := by
  simp only [State.askPop]; (repeat' split) <;> simp
@[simp] theorem State.askPop_acc (st : Station) : (State.askPop st s).acc = s.acc := by
  simp only [State.askPop]; (repeat' split) <;> simp
@[simp] theorem State.askPop_jnl (st : Station) : (State.askPop st s).jnl = s.jnl := by
  simp only [State.askPop]; (repeat' split) <;> simp
@[simp] theorem State.askPop_clk (st : Station) : (State.askPop st s).clk = s.clk := by
  simp only [State.askPop]; (repeat' split) <;> simp
@[simp] theorem State.askPop_lbl (st : Station) : (State.askPop st s).lbl = s.lbl := by
  simp only [State.askPop]; (repeat' split) <;> simp
@[simp] theorem State.askPop_prn (st : Station) : (State.askPop st s).prn = s.prn := by
  simp only [State.askPop]; (repeat' split) <;> simp
@[simp] theorem State.askPop_flt (st : Station) : (State.askPop st s).flt = s.flt := by
  simp only [State.askPop]; (repeat' split) <;> simp
@[simp] theorem State.askPop_pending (st : Station) : (State.askPop st s).pending = s.pending := by
  simp only [State.askPop]; (repeat' split) <;> simp
@[simp] theorem State.granted_lnk (st : Station) : (State.granted st s).lnk = s.lnk := by
  simp only [State.granted]; (repeat' split) <;> simp
@[simp] theorem State.granted_ord (st : Station) : (State.granted st s).ord = s.ord := by
  simp only [State.granted]; (repeat' split) <;> simp
@[simp] theorem State.granted_drives (st : Station) : (State.granted st s).drives = s.drives := by
  simp only [State.granted]; (repeat' split) <;> simp
@[simp] theorem State.granted_rol (st : Station) : (State.granted st s).rol = s.rol := by
  simp only [State.granted]; (repeat' split) <;> simp
@[simp] theorem State.granted_acc (st : Station) : (State.granted st s).acc = s.acc := by
  simp only [State.granted]; (repeat' split) <;> simp
@[simp] theorem State.granted_jnl (st : Station) : (State.granted st s).jnl = s.jnl := by
  simp only [State.granted]; (repeat' split) <;> simp
@[simp] theorem State.granted_clk (st : Station) : (State.granted st s).clk = s.clk := by
  simp only [State.granted]; (repeat' split) <;> simp
@[simp] theorem State.granted_lbl (st : Station) : (State.granted st s).lbl = s.lbl := by
  simp only [State.granted]; (repeat' split) <;> simp
@[simp] theorem State.granted_prn (st : Station) : (State.granted st s).prn = s.prn := by
  simp only [State.granted]; (repeat' split) <;> simp
@[simp] theorem State.granted_flt (st : Station) : (State.granted st s).flt = s.flt := by
  simp only [State.granted]; (repeat' split) <;> simp
@[simp] theorem State.granted_pending (st : Station) : (State.granted st s).pending = s.pending := by
  simp only [State.granted]; (repeat' split) <;> simp
@[simp] theorem State.testChosen_lnk : (State.testChosen s).lnk = s.lnk := by
  simp only [State.testChosen]; (repeat' split) <;> simp
@[simp] theorem State.testChosen_ord : (State.testChosen s).ord = s.ord := by
  simp only [State.testChosen]; (repeat' split) <;> simp
@[simp] theorem State.testChosen_drives : (State.testChosen s).drives = s.drives := by
  simp only [State.testChosen]; (repeat' split) <;> simp
@[simp] theorem State.testChosen_rol : (State.testChosen s).rol = s.rol := by
  simp only [State.testChosen]; (repeat' split) <;> simp
@[simp] theorem State.testChosen_acc : (State.testChosen s).acc = s.acc := by
  simp only [State.testChosen]; (repeat' split) <;> simp
@[simp] theorem State.testChosen_jnl : (State.testChosen s).jnl = s.jnl := by
  simp only [State.testChosen]; (repeat' split) <;> simp
@[simp] theorem State.testChosen_clk : (State.testChosen s).clk = s.clk := by
  simp only [State.testChosen]; (repeat' split) <;> simp
@[simp] theorem State.testChosen_lbl : (State.testChosen s).lbl = s.lbl := by
  simp only [State.testChosen]; (repeat' split) <;> simp
@[simp] theorem State.testChosen_prn : (State.testChosen s).prn = s.prn := by
  simp only [State.testChosen]; (repeat' split) <;> simp
@[simp] theorem State.testChosen_flt : (State.testChosen s).flt = s.flt := by
  simp only [State.testChosen]; (repeat' split) <;> simp
@[simp] theorem State.testChosen_pending : (State.testChosen s).pending = s.pending := by
  simp only [State.testChosen]; (repeat' split) <;> simp
@[simp] theorem State.choose_lnk : (State.choose s).lnk = s.lnk := by
  simp only [State.choose]; (repeat' split) <;> simp
@[simp] theorem State.choose_ord : (State.choose s).ord = s.ord := by
  simp only [State.choose]; (repeat' split) <;> simp
@[simp] theorem State.choose_drives : (State.choose s).drives = s.drives := by
  simp only [State.choose]; (repeat' split) <;> simp
@[simp] theorem State.choose_rol : (State.choose s).rol = s.rol := by
  simp only [State.choose]; (repeat' split) <;> simp
@[simp] theorem State.choose_acc : (State.choose s).acc = s.acc := by
  simp only [State.choose]; (repeat' split) <;> simp
@[simp] theorem State.choose_jnl : (State.choose s).jnl = s.jnl := by
  simp only [State.choose]; (repeat' split) <;> simp
@[simp] theorem State.choose_clk : (State.choose s).clk = s.clk := by
  simp only [State.choose]; (repeat' split) <;> simp
@[simp] theorem State.choose_lbl : (State.choose s).lbl = s.lbl := by
  simp only [State.choose]; (repeat' split) <;> simp
@[simp] theorem State.choose_prn : (State.choose s).prn = s.prn := by
  simp only [State.choose]; (repeat' split) <;> simp
@[simp] theorem State.choose_flt : (State.choose s).flt = s.flt := by
  simp only [State.choose]; (repeat' split) <;> simp
@[simp] theorem State.choose_pending : (State.choose s).pending = s.pending := by
  simp only [State.choose]; (repeat' split) <;> simp
@[simp] theorem State.raiseGen_ord : (State.raiseGen s).ord = s.ord := rfl
@[simp] theorem State.raiseGen_seqs : (State.raiseGen s).seqs = s.seqs := rfl
@[simp] theorem State.raiseGen_drives : (State.raiseGen s).drives = s.drives := rfl
@[simp] theorem State.raiseGen_gen : (State.raiseGen s).gen = s.gen := rfl
@[simp] theorem State.raiseGen_rol : (State.raiseGen s).rol = s.rol := rfl
@[simp] theorem State.raiseGen_acc : (State.raiseGen s).acc = s.acc := rfl
@[simp] theorem State.raiseGen_jnl : (State.raiseGen s).jnl = s.jnl := rfl
@[simp] theorem State.raiseGen_clk : (State.raiseGen s).clk = s.clk := rfl
@[simp] theorem State.raiseGen_lbl : (State.raiseGen s).lbl = s.lbl := rfl
@[simp] theorem State.raiseGen_prn : (State.raiseGen s).prn = s.prn := rfl
@[simp] theorem State.raiseGen_flt : (State.raiseGen s).flt = s.flt := rfl
@[simp] theorem State.raiseGen_pending : (State.raiseGen s).pending = s.pending := rfl
@[simp] theorem State.genToFault_ord : (State.genToFault s).ord = s.ord := rfl
@[simp] theorem State.genToFault_seqs : (State.genToFault s).seqs = s.seqs := rfl
@[simp] theorem State.genToFault_drives : (State.genToFault s).drives = s.drives := rfl
@[simp] theorem State.genToFault_rol : (State.genToFault s).rol = s.rol := rfl
@[simp] theorem State.genToFault_acc : (State.genToFault s).acc = s.acc := rfl
@[simp] theorem State.genToFault_jnl : (State.genToFault s).jnl = s.jnl := rfl
@[simp] theorem State.genToFault_clk : (State.genToFault s).clk = s.clk := rfl
@[simp] theorem State.genToFault_lbl : (State.genToFault s).lbl = s.lbl := rfl
@[simp] theorem State.genToFault_prn : (State.genToFault s).prn = s.prn := rfl
@[simp] theorem State.genToFault_flt : (State.genToFault s).flt = s.flt := rfl
@[simp] theorem State.genToFault_pending : (State.genToFault s).pending = s.pending := rfl
/-- What GEN is as it enters FAULT: its heat, last-grant order and ready input as they were. -/
@[simp] theorem State.genToFault_gen : (State.genToFault s).gen =
    { s.gen with mode := .fault, output := .safe, chargeTimer := none, idleTimer := none, chosen := none, holder := none
                 requests := [] } := rfl
@[simp] theorem State.listRequest_ord (r : GenRequest) : (State.listRequest r s).ord = s.ord := by
  simp only [State.listRequest]; (repeat' split) <;> simp
@[simp] theorem State.listRequest_drives (r : GenRequest) : (State.listRequest r s).drives = s.drives := by
  simp only [State.listRequest]; (repeat' split) <;> simp
@[simp] theorem State.listRequest_rol (r : GenRequest) : (State.listRequest r s).rol = s.rol := by
  simp only [State.listRequest]; (repeat' split) <;> simp
@[simp] theorem State.listRequest_acc (r : GenRequest) : (State.listRequest r s).acc = s.acc := by
  simp only [State.listRequest]; (repeat' split) <;> simp
@[simp] theorem State.listRequest_jnl (r : GenRequest) : (State.listRequest r s).jnl = s.jnl := by
  simp only [State.listRequest]; (repeat' split) <;> simp
@[simp] theorem State.listRequest_clk (r : GenRequest) : (State.listRequest r s).clk = s.clk := by
  simp only [State.listRequest]; (repeat' split) <;> simp
@[simp] theorem State.listRequest_lbl (r : GenRequest) : (State.listRequest r s).lbl = s.lbl := by
  simp only [State.listRequest]; (repeat' split) <;> simp
@[simp] theorem State.listRequest_prn (r : GenRequest) : (State.listRequest r s).prn = s.prn := by
  simp only [State.listRequest]; (repeat' split) <;> simp
@[simp] theorem State.listRequest_flt (r : GenRequest) : (State.listRequest r s).flt = s.flt := by
  simp only [State.listRequest]; (repeat' split) <;> simp
@[simp] theorem State.listRequest_pending (r : GenRequest) : (State.listRequest r s).pending = s.pending := by
  simp only [State.listRequest]; (repeat' split) <;> simp
@[simp] theorem State.releaseGrant_lnk (st : Station) : (State.releaseGrant st s).lnk = s.lnk := by
  simp only [State.releaseGrant]; (repeat' split) <;> simp
@[simp] theorem State.releaseGrant_ord (st : Station) : (State.releaseGrant st s).ord = s.ord := by
  simp only [State.releaseGrant]; (repeat' split) <;> simp
@[simp] theorem State.releaseGrant_drives (st : Station) : (State.releaseGrant st s).drives = s.drives := by
  simp only [State.releaseGrant]; (repeat' split) <;> simp
@[simp] theorem State.releaseGrant_rol (st : Station) : (State.releaseGrant st s).rol = s.rol := by
  simp only [State.releaseGrant]; (repeat' split) <;> simp
@[simp] theorem State.releaseGrant_acc (st : Station) : (State.releaseGrant st s).acc = s.acc := by
  simp only [State.releaseGrant]; (repeat' split) <;> simp
@[simp] theorem State.releaseGrant_jnl (st : Station) : (State.releaseGrant st s).jnl = s.jnl := by
  simp only [State.releaseGrant]; (repeat' split) <;> simp
@[simp] theorem State.releaseGrant_clk (st : Station) : (State.releaseGrant st s).clk = s.clk := by
  simp only [State.releaseGrant]; (repeat' split) <;> simp
@[simp] theorem State.releaseGrant_lbl (st : Station) : (State.releaseGrant st s).lbl = s.lbl := by
  simp only [State.releaseGrant]; (repeat' split) <;> simp
@[simp] theorem State.releaseGrant_prn (st : Station) : (State.releaseGrant st s).prn = s.prn := by
  simp only [State.releaseGrant]; (repeat' split) <;> simp
@[simp] theorem State.releaseGrant_flt (st : Station) : (State.releaseGrant st s).flt = s.flt := by
  simp only [State.releaseGrant]; (repeat' split) <;> simp
@[simp] theorem State.releaseGrant_pending (st : Station) : (State.releaseGrant st s).pending = s.pending := by
  simp only [State.releaseGrant]; (repeat' split) <;> simp
@[simp] theorem State.withdraw_lnk (st : Station) : (State.withdraw st s).lnk = s.lnk := by
  simp [State.withdraw]
@[simp] theorem State.withdraw_ord (st : Station) : (State.withdraw st s).ord = s.ord := by
  simp [State.withdraw]
@[simp] theorem State.withdraw_drives (st : Station) : (State.withdraw st s).drives = s.drives := by
  simp [State.withdraw]
@[simp] theorem State.withdraw_rol (st : Station) : (State.withdraw st s).rol = s.rol := by
  simp [State.withdraw]
@[simp] theorem State.withdraw_acc (st : Station) : (State.withdraw st s).acc = s.acc := by
  simp [State.withdraw]
@[simp] theorem State.withdraw_jnl (st : Station) : (State.withdraw st s).jnl = s.jnl := by
  simp [State.withdraw]
@[simp] theorem State.withdraw_clk (st : Station) : (State.withdraw st s).clk = s.clk := by
  simp [State.withdraw]
@[simp] theorem State.withdraw_lbl (st : Station) : (State.withdraw st s).lbl = s.lbl := by
  simp [State.withdraw]
@[simp] theorem State.withdraw_prn (st : Station) : (State.withdraw st s).prn = s.prn := by
  simp [State.withdraw]
@[simp] theorem State.withdraw_flt (st : Station) : (State.withdraw st s).flt = s.flt := by
  simp [State.withdraw]
@[simp] theorem State.withdraw_pending (st : Station) : (State.withdraw st s).pending = s.pending := by
  simp [State.withdraw]

/-! ### The stations -/

@[simp] theorem State.setMode_ord (st : Station) (m : Mode) : (State.setMode st m s).ord = s.ord := by
  simp only [State.setMode]; (repeat' split) <;> simp
@[simp] theorem State.setMode_drives (st : Station) (m : Mode) : (State.setMode st m s).drives = s.drives := by
  simp only [State.setMode]; (repeat' split) <;> simp
@[simp] theorem State.setMode_gen (st : Station) (m : Mode) : (State.setMode st m s).gen = s.gen := by
  simp only [State.setMode]; (repeat' split) <;> simp
@[simp] theorem State.setMode_rol (st : Station) (m : Mode) : (State.setMode st m s).rol = s.rol := by
  simp only [State.setMode]; (repeat' split) <;> simp
@[simp] theorem State.setMode_acc (st : Station) (m : Mode) : (State.setMode st m s).acc = s.acc := by
  simp only [State.setMode]; (repeat' split) <;> simp
@[simp] theorem State.setMode_jnl (st : Station) (m : Mode) : (State.setMode st m s).jnl = s.jnl := by
  simp only [State.setMode]; (repeat' split) <;> simp
@[simp] theorem State.setMode_clk (st : Station) (m : Mode) : (State.setMode st m s).clk = s.clk := by
  simp only [State.setMode]; (repeat' split) <;> simp
@[simp] theorem State.setMode_lbl (st : Station) (m : Mode) : (State.setMode st m s).lbl = s.lbl := by
  simp only [State.setMode]; (repeat' split) <;> simp
@[simp] theorem State.setMode_prn (st : Station) (m : Mode) : (State.setMode st m s).prn = s.prn := by
  simp only [State.setMode]; (repeat' split) <;> simp
@[simp] theorem State.setMode_flt (st : Station) (m : Mode) : (State.setMode st m s).flt = s.flt := by
  simp only [State.setMode]; (repeat' split) <;> simp
@[simp] theorem State.setMode_pending (st : Station) (m : Mode) : (State.setMode st m s).pending = s.pending := by
  simp only [State.setMode]; (repeat' split) <;> simp
@[simp] theorem State.clearCurrent_lnk (st : Station) : (State.clearCurrent st s).lnk = s.lnk := rfl
@[simp] theorem State.clearCurrent_ord (st : Station) : (State.clearCurrent st s).ord = s.ord := rfl
@[simp] theorem State.clearCurrent_drives (st : Station) : (State.clearCurrent st s).drives = s.drives := rfl
@[simp] theorem State.clearCurrent_gen (st : Station) : (State.clearCurrent st s).gen = s.gen := rfl
@[simp] theorem State.clearCurrent_rol (st : Station) : (State.clearCurrent st s).rol = s.rol := rfl
@[simp] theorem State.clearCurrent_acc (st : Station) : (State.clearCurrent st s).acc = s.acc := rfl
@[simp] theorem State.clearCurrent_jnl (st : Station) : (State.clearCurrent st s).jnl = s.jnl := rfl
@[simp] theorem State.clearCurrent_clk (st : Station) : (State.clearCurrent st s).clk = s.clk := rfl
@[simp] theorem State.clearCurrent_lbl (st : Station) : (State.clearCurrent st s).lbl = s.lbl := rfl
@[simp] theorem State.clearCurrent_prn (st : Station) : (State.clearCurrent st s).prn = s.prn := rfl
@[simp] theorem State.clearCurrent_flt (st : Station) : (State.clearCurrent st s).flt = s.flt := rfl
@[simp] theorem State.clearCurrent_pending (st : Station) : (State.clearCurrent st s).pending = s.pending := rfl
@[simp] theorem State.dropClaim_lnk (st : Station) : (State.dropClaim st s).lnk = s.lnk := by
  simp only [State.dropClaim]; (repeat' split) <;> simp
@[simp] theorem State.dropClaim_ord (st : Station) : (State.dropClaim st s).ord = s.ord := by
  simp only [State.dropClaim]; (repeat' split) <;> simp
@[simp] theorem State.dropClaim_drives (st : Station) : (State.dropClaim st s).drives = s.drives := by
  simp only [State.dropClaim]; (repeat' split) <;> simp
@[simp] theorem State.dropClaim_rol (st : Station) : (State.dropClaim st s).rol = s.rol := by
  simp only [State.dropClaim]; (repeat' split) <;> simp
@[simp] theorem State.dropClaim_acc (st : Station) : (State.dropClaim st s).acc = s.acc := by
  simp only [State.dropClaim]; (repeat' split) <;> simp
@[simp] theorem State.dropClaim_jnl (st : Station) : (State.dropClaim st s).jnl = s.jnl := by
  simp only [State.dropClaim]; (repeat' split) <;> simp
@[simp] theorem State.dropClaim_clk (st : Station) : (State.dropClaim st s).clk = s.clk := by
  simp only [State.dropClaim]; (repeat' split) <;> simp
@[simp] theorem State.dropClaim_lbl (st : Station) : (State.dropClaim st s).lbl = s.lbl := by
  simp only [State.dropClaim]; (repeat' split) <;> simp
@[simp] theorem State.dropClaim_prn (st : Station) : (State.dropClaim st s).prn = s.prn := by
  simp only [State.dropClaim]; (repeat' split) <;> simp
@[simp] theorem State.dropClaim_flt (st : Station) : (State.dropClaim st s).flt = s.flt := by
  simp only [State.dropClaim]; (repeat' split) <;> simp
@[simp] theorem State.dropClaim_pending (st : Station) : (State.dropClaim st s).pending = s.pending := by
  simp only [State.dropClaim]; (repeat' split) <;> simp
@[simp] theorem State.dropSlot_lnk (st : Station) : (State.dropSlot st s).lnk = s.lnk := by
  simp only [State.dropSlot]; (repeat' split) <;> simp
@[simp] theorem State.dropSlot_ord (st : Station) : (State.dropSlot st s).ord = s.ord := by
  simp only [State.dropSlot]; (repeat' split) <;> simp
@[simp] theorem State.dropSlot_drives (st : Station) : (State.dropSlot st s).drives = s.drives := by
  simp only [State.dropSlot]; (repeat' split) <;> simp
@[simp] theorem State.dropSlot_gen (st : Station) : (State.dropSlot st s).gen = s.gen := by
  simp only [State.dropSlot]; (repeat' split) <;> simp
@[simp] theorem State.dropSlot_rol (st : Station) : (State.dropSlot st s).rol = s.rol := by
  simp only [State.dropSlot]; (repeat' split) <;> simp
@[simp] theorem State.dropSlot_acc (st : Station) : (State.dropSlot st s).acc = s.acc := by
  simp only [State.dropSlot]; (repeat' split) <;> simp
@[simp] theorem State.dropSlot_clk (st : Station) : (State.dropSlot st s).clk = s.clk := by
  simp only [State.dropSlot]; (repeat' split) <;> simp
@[simp] theorem State.dropSlot_lbl (st : Station) : (State.dropSlot st s).lbl = s.lbl := by
  simp only [State.dropSlot]; (repeat' split) <;> simp
@[simp] theorem State.dropSlot_flt (st : Station) : (State.dropSlot st s).flt = s.flt := by
  simp only [State.dropSlot]; (repeat' split) <;> simp
@[simp] theorem State.dropSlot_pending (st : Station) : (State.dropSlot st s).pending = s.pending := by
  simp only [State.dropSlot]; (repeat' split) <;> simp
@[simp] theorem State.dropContext_lnk (st : Station) : (State.dropContext st s).lnk = s.lnk := by
  simp only [State.dropContext]; (repeat' split) <;> simp
@[simp] theorem State.dropContext_ord (st : Station) : (State.dropContext st s).ord = s.ord := by
  simp only [State.dropContext]; (repeat' split) <;> simp
@[simp] theorem State.dropContext_drives (st : Station) : (State.dropContext st s).drives = s.drives := by
  simp only [State.dropContext]; (repeat' split) <;> simp
@[simp] theorem State.dropContext_gen (st : Station) : (State.dropContext st s).gen = s.gen := by
  simp only [State.dropContext]; (repeat' split) <;> simp
@[simp] theorem State.dropContext_jnl (st : Station) : (State.dropContext st s).jnl = s.jnl := by
  simp only [State.dropContext]; (repeat' split) <;> simp
@[simp] theorem State.dropContext_clk (st : Station) : (State.dropContext st s).clk = s.clk := by
  simp only [State.dropContext]; (repeat' split) <;> simp
@[simp] theorem State.dropContext_lbl (st : Station) : (State.dropContext st s).lbl = s.lbl := by
  simp only [State.dropContext]; (repeat' split) <;> simp
@[simp] theorem State.dropContext_prn (st : Station) : (State.dropContext st s).prn = s.prn := by
  simp only [State.dropContext]; (repeat' split) <;> simp
@[simp] theorem State.dropContext_flt (st : Station) : (State.dropContext st s).flt = s.flt := by
  simp only [State.dropContext]; (repeat' split) <;> simp
@[simp] theorem State.dropContext_pending (st : Station) : (State.dropContext st s).pending = s.pending := by
  simp only [State.dropContext]; (repeat' split) <;> simp
@[simp] theorem State.settle_lnk (st : Station) : (State.settle st s).lnk = s.lnk := by
  simp [State.settle]
@[simp] theorem State.settle_ord (st : Station) : (State.settle st s).ord = s.ord := by
  simp [State.settle]
@[simp] theorem State.settle_drives (st : Station) : (State.settle st s).drives = s.drives := by
  simp [State.settle]
@[simp] theorem State.settle_clk (st : Station) : (State.settle st s).clk = s.clk := by
  simp [State.settle]
@[simp] theorem State.settle_lbl (st : Station) : (State.settle st s).lbl = s.lbl := by
  simp [State.settle]
@[simp] theorem State.settle_flt (st : Station) : (State.settle st s).flt = s.flt := by
  simp [State.settle]
@[simp] theorem State.settle_pending (st : Station) : (State.settle st s).pending = s.pending := by
  simp [State.settle]
@[simp] theorem State.leaveOrder_lnk (st : Station) : (State.leaveOrder st s).lnk = s.lnk := by
  simp [State.leaveOrder]
@[simp] theorem State.leaveOrder_ord (st : Station) : (State.leaveOrder st s).ord = s.ord := by
  simp [State.leaveOrder]
@[simp] theorem State.leaveOrder_drives (st : Station) : (State.leaveOrder st s).drives = s.drives := by
  simp [State.leaveOrder]
@[simp] theorem State.leaveOrder_clk (st : Station) : (State.leaveOrder st s).clk = s.clk := by
  simp [State.leaveOrder]
@[simp] theorem State.leaveOrder_lbl (st : Station) : (State.leaveOrder st s).lbl = s.lbl := by
  simp [State.leaveOrder]
@[simp] theorem State.leaveOrder_flt (st : Station) : (State.leaveOrder st s).flt = s.flt := by
  simp [State.leaveOrder]
@[simp] theorem State.leaveOrder_pending (st : Station) : (State.leaveOrder st s).pending = s.pending := by
  simp [State.leaveOrder]
@[simp] theorem State.holdCurrent_seqs (st : Station) (reason : HoldReason) : (State.holdCurrent st reason s).seqs = s.seqs := by
  simp only [State.holdCurrent]; (repeat' split) <;> simp
@[simp] theorem State.holdCurrent_drives (st : Station) (reason : HoldReason) : (State.holdCurrent st reason s).drives = s.drives := by
  simp only [State.holdCurrent]; (repeat' split) <;> simp
@[simp] theorem State.holdCurrent_gen (st : Station) (reason : HoldReason) : (State.holdCurrent st reason s).gen = s.gen := by
  simp only [State.holdCurrent]; (repeat' split) <;> simp
@[simp] theorem State.holdCurrent_rol (st : Station) (reason : HoldReason) : (State.holdCurrent st reason s).rol = s.rol := by
  simp only [State.holdCurrent]; (repeat' split) <;> simp
@[simp] theorem State.holdCurrent_acc (st : Station) (reason : HoldReason) : (State.holdCurrent st reason s).acc = s.acc := by
  simp only [State.holdCurrent]; (repeat' split) <;> simp
@[simp] theorem State.holdCurrent_jnl (st : Station) (reason : HoldReason) : (State.holdCurrent st reason s).jnl = s.jnl := by
  simp only [State.holdCurrent]; (repeat' split) <;> simp
@[simp] theorem State.holdCurrent_clk (st : Station) (reason : HoldReason) : (State.holdCurrent st reason s).clk = s.clk := by
  simp only [State.holdCurrent]; (repeat' split) <;> simp
@[simp] theorem State.holdCurrent_lbl (st : Station) (reason : HoldReason) : (State.holdCurrent st reason s).lbl = s.lbl := by
  simp only [State.holdCurrent]; (repeat' split) <;> simp
@[simp] theorem State.holdCurrent_prn (st : Station) (reason : HoldReason) : (State.holdCurrent st reason s).prn = s.prn := by
  simp only [State.holdCurrent]; (repeat' split) <;> simp
@[simp] theorem State.holdCurrent_flt (st : Station) (reason : HoldReason) : (State.holdCurrent st reason s).flt = s.flt := by
  simp only [State.holdCurrent]; (repeat' split) <;> simp
@[simp] theorem State.holdCurrent_pending (st : Station) (reason : HoldReason) : (State.holdCurrent st reason s).pending = s.pending := by
  simp only [State.holdCurrent]; (repeat' split) <;> simp
@[simp] theorem State.endItem_seqs (st : Station) (id n : Nat) (e : ItemState) : (State.endItem st id n e s).seqs = s.seqs := by
  simp only [State.endItem]; (repeat' split) <;> simp
@[simp] theorem State.endItem_drives (st : Station) (id n : Nat) (e : ItemState) : (State.endItem st id n e s).drives = s.drives := by
  simp only [State.endItem]; (repeat' split) <;> simp
@[simp] theorem State.endItem_gen (st : Station) (id n : Nat) (e : ItemState) : (State.endItem st id n e s).gen = s.gen := by
  simp only [State.endItem]; (repeat' split) <;> simp
@[simp] theorem State.endItem_rol (st : Station) (id n : Nat) (e : ItemState) : (State.endItem st id n e s).rol = s.rol := by
  simp only [State.endItem]; (repeat' split) <;> simp
@[simp] theorem State.endItem_acc (st : Station) (id n : Nat) (e : ItemState) : (State.endItem st id n e s).acc = s.acc := by
  simp only [State.endItem]; (repeat' split) <;> simp
@[simp] theorem State.endItem_jnl (st : Station) (id n : Nat) (e : ItemState) : (State.endItem st id n e s).jnl = s.jnl := by
  simp only [State.endItem]; (repeat' split) <;> simp
@[simp] theorem State.endItem_clk (st : Station) (id n : Nat) (e : ItemState) : (State.endItem st id n e s).clk = s.clk := by
  simp only [State.endItem]; (repeat' split) <;> simp
@[simp] theorem State.endItem_lbl (st : Station) (id n : Nat) (e : ItemState) : (State.endItem st id n e s).lbl = s.lbl := by
  simp only [State.endItem]; (repeat' split) <;> simp
@[simp] theorem State.endItem_prn (st : Station) (id n : Nat) (e : ItemState) : (State.endItem st id n e s).prn = s.prn := by
  simp only [State.endItem]; (repeat' split) <;> simp
@[simp] theorem State.endItem_flt (st : Station) (id n : Nat) (e : ItemState) : (State.endItem st id n e s).flt = s.flt := by
  simp only [State.endItem]; (repeat' split) <;> simp
@[simp] theorem State.endItem_pending (st : Station) (id n : Nat) (e : ItemState) : (State.endItem st id n e s).pending = s.pending := by
  simp only [State.endItem]; (repeat' split) <;> simp
@[simp] theorem State.orderDone_drives (st : Station) (id : Nat) : (State.orderDone st id s).drives = s.drives := by
  simp [State.orderDone]
@[simp] theorem State.orderDone_gen (st : Station) (id : Nat) : (State.orderDone st id s).gen = s.gen := by
  simp [State.orderDone]
@[simp] theorem State.orderDone_rol (st : Station) (id : Nat) : (State.orderDone st id s).rol = s.rol := by
  simp [State.orderDone]
@[simp] theorem State.orderDone_acc (st : Station) (id : Nat) : (State.orderDone st id s).acc = s.acc := by
  simp [State.orderDone]
@[simp] theorem State.orderDone_jnl (st : Station) (id : Nat) : (State.orderDone st id s).jnl = s.jnl := by
  simp [State.orderDone]
@[simp] theorem State.orderDone_clk (st : Station) (id : Nat) : (State.orderDone st id s).clk = s.clk := by
  simp [State.orderDone]
@[simp] theorem State.orderDone_lbl (st : Station) (id : Nat) : (State.orderDone st id s).lbl = s.lbl := by
  simp [State.orderDone]
@[simp] theorem State.orderDone_prn (st : Station) (id : Nat) : (State.orderDone st id s).prn = s.prn := by
  simp [State.orderDone]
@[simp] theorem State.orderDone_flt (st : Station) (id : Nat) : (State.orderDone st id s).flt = s.flt := by
  simp [State.orderDone]
@[simp] theorem State.orderDone_pending (st : Station) (id : Nat) : (State.orderDone st id s).pending = s.pending := by
  simp [State.orderDone]
@[simp] theorem State.endItemFirst_drives (st : Station) : (State.endItemFirst st s).drives = s.drives := by
  simp only [State.endItemFirst]; (repeat' split) <;> simp
@[simp] theorem State.endItemFirst_clk (st : Station) : (State.endItemFirst st s).clk = s.clk := by
  simp only [State.endItemFirst]; (repeat' split) <;> simp
@[simp] theorem State.endItemFirst_lbl (st : Station) : (State.endItemFirst st s).lbl = s.lbl := by
  simp only [State.endItemFirst]; (repeat' split) <;> simp
@[simp] theorem State.endItemFirst_flt (st : Station) : (State.endItemFirst st s).flt = s.flt := by
  simp only [State.endItemFirst]; (repeat' split) <;> simp
@[simp] theorem State.endItemFirst_pending (st : Station) : (State.endItemFirst st s).pending = s.pending := by
  simp only [State.endItemFirst]; (repeat' split) <;> simp
@[simp] theorem State.takeRollEnd_clk (st : Station) : (State.takeRollEnd st s).clk = s.clk := by
  simp only [State.takeRollEnd]; (repeat' split) <;> simp
@[simp] theorem State.takeRollEnd_lbl (st : Station) : (State.takeRollEnd st s).lbl = s.lbl := by
  simp only [State.takeRollEnd]; (repeat' split) <;> simp
@[simp] theorem State.takeRollEnd_flt (st : Station) : (State.takeRollEnd st s).flt = s.flt := by
  simp only [State.takeRollEnd]; (repeat' split) <;> simp
@[simp] theorem State.takeRollEnd_pending (st : Station) : (State.takeRollEnd st s).pending = s.pending := by
  simp only [State.takeRollEnd]; (repeat' split) <;> simp
@[simp] theorem State.enterFault_ord (st : Station) (cause : StationFault) (unfinished : Bool) : (State.enterFault st cause unfinished s).ord = s.ord := by
  simp [State.enterFault]
@[simp] theorem State.enterFault_drives (st : Station) (cause : StationFault) (unfinished : Bool) : (State.enterFault st cause unfinished s).drives = s.drives := by
  simp [State.enterFault]
@[simp] theorem State.enterFault_rol (st : Station) (cause : StationFault) (unfinished : Bool) : (State.enterFault st cause unfinished s).rol = s.rol := by
  simp [State.enterFault]
@[simp] theorem State.enterFault_acc (st : Station) (cause : StationFault) (unfinished : Bool) : (State.enterFault st cause unfinished s).acc = s.acc := by
  simp [State.enterFault]
@[simp] theorem State.enterFault_clk (st : Station) (cause : StationFault) (unfinished : Bool) : (State.enterFault st cause unfinished s).clk = s.clk := by
  simp [State.enterFault]
@[simp] theorem State.enterFault_lbl (st : Station) (cause : StationFault) (unfinished : Bool) : (State.enterFault st cause unfinished s).lbl = s.lbl := by
  simp [State.enterFault]
@[simp] theorem State.enterFault_flt (st : Station) (cause : StationFault) (unfinished : Bool) : (State.enterFault st cause unfinished s).flt = s.flt := by
  simp [State.enterFault]
@[simp] theorem State.enterFault_pending (st : Station) (cause : StationFault) (unfinished : Bool) : (State.enterFault st cause unfinished s).pending = s.pending := by
  simp [State.enterFault]
@[simp] theorem State.recordFilmEnd_lnk (st : Station) : (State.recordFilmEnd st s).lnk = s.lnk := by
  simp only [State.recordFilmEnd]; (repeat' split) <;> simp
@[simp] theorem State.recordFilmEnd_ord (st : Station) : (State.recordFilmEnd st s).ord = s.ord := by
  simp only [State.recordFilmEnd]; (repeat' split) <;> simp
@[simp] theorem State.recordFilmEnd_seqs (st : Station) : (State.recordFilmEnd st s).seqs = s.seqs := by
  simp only [State.recordFilmEnd]; (repeat' split) <;> simp
@[simp] theorem State.recordFilmEnd_drives (st : Station) : (State.recordFilmEnd st s).drives = s.drives := by
  simp only [State.recordFilmEnd]; (repeat' split) <;> simp
@[simp] theorem State.recordFilmEnd_gen (st : Station) : (State.recordFilmEnd st s).gen = s.gen := by
  simp only [State.recordFilmEnd]; (repeat' split) <;> simp
@[simp] theorem State.recordFilmEnd_acc (st : Station) : (State.recordFilmEnd st s).acc = s.acc := by
  simp only [State.recordFilmEnd]; (repeat' split) <;> simp
@[simp] theorem State.recordFilmEnd_jnl (st : Station) : (State.recordFilmEnd st s).jnl = s.jnl := by
  simp only [State.recordFilmEnd]; (repeat' split) <;> simp
@[simp] theorem State.recordFilmEnd_clk (st : Station) : (State.recordFilmEnd st s).clk = s.clk := by
  simp only [State.recordFilmEnd]; (repeat' split) <;> simp
@[simp] theorem State.recordFilmEnd_lbl (st : Station) : (State.recordFilmEnd st s).lbl = s.lbl := by
  simp only [State.recordFilmEnd]; (repeat' split) <;> simp
@[simp] theorem State.recordFilmEnd_prn (st : Station) : (State.recordFilmEnd st s).prn = s.prn := by
  simp only [State.recordFilmEnd]; (repeat' split) <;> simp
@[simp] theorem State.recordFilmEnd_flt (st : Station) : (State.recordFilmEnd st s).flt = s.flt := by
  simp only [State.recordFilmEnd]; (repeat' split) <;> simp
@[simp] theorem State.recordFilmEnd_pending (st : Station) : (State.recordFilmEnd st s).pending = s.pending := by
  simp only [State.recordFilmEnd]; (repeat' split) <;> simp
@[simp] theorem State.filmEnd_clk (st : Station) : (State.filmEnd st s).clk = s.clk := by
  simp only [State.filmEnd]; (repeat' split) <;> simp
@[simp] theorem State.filmEnd_lbl (st : Station) : (State.filmEnd st s).lbl = s.lbl := by
  simp only [State.filmEnd]; (repeat' split) <;> simp
@[simp] theorem State.filmEnd_flt (st : Station) : (State.filmEnd st s).flt = s.flt := by
  simp only [State.filmEnd]; (repeat' split) <;> simp
@[simp] theorem State.filmEnd_pending (st : Station) : (State.filmEnd st s).pending = s.pending := by
  simp only [State.filmEnd]; (repeat' split) <;> simp
@[simp] theorem State.startMove_lnk (st : Station) (m : Move) : (State.startMove st m s).lnk = s.lnk := rfl
@[simp] theorem State.startMove_ord (st : Station) (m : Move) : (State.startMove st m s).ord = s.ord := rfl
@[simp] theorem State.startMove_seqs (st : Station) (m : Move) : (State.startMove st m s).seqs = s.seqs := rfl
@[simp] theorem State.startMove_gen (st : Station) (m : Move) : (State.startMove st m s).gen = s.gen := rfl
@[simp] theorem State.startMove_rol (st : Station) (m : Move) : (State.startMove st m s).rol = s.rol := rfl
@[simp] theorem State.startMove_acc (st : Station) (m : Move) : (State.startMove st m s).acc = s.acc := rfl
@[simp] theorem State.startMove_jnl (st : Station) (m : Move) : (State.startMove st m s).jnl = s.jnl := rfl
@[simp] theorem State.startMove_clk (st : Station) (m : Move) : (State.startMove st m s).clk = s.clk := rfl
@[simp] theorem State.startMove_lbl (st : Station) (m : Move) : (State.startMove st m s).lbl = s.lbl := rfl
@[simp] theorem State.startMove_prn (st : Station) (m : Move) : (State.startMove st m s).prn = s.prn := rfl
@[simp] theorem State.startMove_flt (st : Station) (m : Move) : (State.startMove st m s).flt = s.flt := rfl
@[simp] theorem State.startMove_pending (st : Station) (m : Move) : (State.startMove st m s).pending = s.pending := rfl
@[simp] theorem State.filmEndIfSeen_clk (st : Station) : (State.filmEndIfSeen st s).clk = s.clk := by
  simp only [State.filmEndIfSeen]; (repeat' split) <;> simp
@[simp] theorem State.filmEndIfSeen_lbl (st : Station) : (State.filmEndIfSeen st s).lbl = s.lbl := by
  simp only [State.filmEndIfSeen]; (repeat' split) <;> simp
@[simp] theorem State.filmEndIfSeen_flt (st : Station) : (State.filmEndIfSeen st s).flt = s.flt := by
  simp only [State.filmEndIfSeen]; (repeat' split) <;> simp
@[simp] theorem State.filmEndIfSeen_pending (st : Station) : (State.filmEndIfSeen st s).pending = s.pending := by
  simp only [State.filmEndIfSeen]; (repeat' split) <;> simp
@[simp] theorem State.keepHeld_drives (st : Station) (id : Nat) (reason : HoldReason) (hold : StationHold) : (State.keepHeld st id reason hold s).drives = s.drives := by
  simp [State.keepHeld]
@[simp] theorem State.keepHeld_gen (st : Station) (id : Nat) (reason : HoldReason) (hold : StationHold) : (State.keepHeld st id reason hold s).gen = s.gen := by
  simp [State.keepHeld]
@[simp] theorem State.keepHeld_rol (st : Station) (id : Nat) (reason : HoldReason) (hold : StationHold) : (State.keepHeld st id reason hold s).rol = s.rol := by
  simp [State.keepHeld]
@[simp] theorem State.keepHeld_acc (st : Station) (id : Nat) (reason : HoldReason) (hold : StationHold) : (State.keepHeld st id reason hold s).acc = s.acc := by
  simp [State.keepHeld]
@[simp] theorem State.keepHeld_jnl (st : Station) (id : Nat) (reason : HoldReason) (hold : StationHold) : (State.keepHeld st id reason hold s).jnl = s.jnl := by
  simp [State.keepHeld]
@[simp] theorem State.keepHeld_clk (st : Station) (id : Nat) (reason : HoldReason) (hold : StationHold) : (State.keepHeld st id reason hold s).clk = s.clk := by
  simp [State.keepHeld]
@[simp] theorem State.keepHeld_lbl (st : Station) (id : Nat) (reason : HoldReason) (hold : StationHold) : (State.keepHeld st id reason hold s).lbl = s.lbl := by
  simp [State.keepHeld]
@[simp] theorem State.keepHeld_prn (st : Station) (id : Nat) (reason : HoldReason) (hold : StationHold) : (State.keepHeld st id reason hold s).prn = s.prn := by
  simp [State.keepHeld]
@[simp] theorem State.keepHeld_flt (st : Station) (id : Nat) (reason : HoldReason) (hold : StationHold) : (State.keepHeld st id reason hold s).flt = s.flt := by
  simp [State.keepHeld]
@[simp] theorem State.keepHeld_pending (st : Station) (id : Nat) (reason : HoldReason) (hold : StationHold) : (State.keepHeld st id reason hold s).pending = s.pending := by
  simp [State.keepHeld]
@[simp] theorem State.makeAnnounce_drives (st : Station) (o : Order) (i : Item) (rates : RateSnapshot) : (State.makeAnnounce st o i rates s).drives = s.drives := by
  simp [State.makeAnnounce]
@[simp] theorem State.makeAnnounce_gen (st : Station) (o : Order) (i : Item) (rates : RateSnapshot) : (State.makeAnnounce st o i rates s).gen = s.gen := by
  simp [State.makeAnnounce]
@[simp] theorem State.makeAnnounce_jnl (st : Station) (o : Order) (i : Item) (rates : RateSnapshot) : (State.makeAnnounce st o i rates s).jnl = s.jnl := by
  simp [State.makeAnnounce]
@[simp] theorem State.makeAnnounce_clk (st : Station) (o : Order) (i : Item) (rates : RateSnapshot) : (State.makeAnnounce st o i rates s).clk = s.clk := by
  simp [State.makeAnnounce]
@[simp] theorem State.makeAnnounce_lbl (st : Station) (o : Order) (i : Item) (rates : RateSnapshot) : (State.makeAnnounce st o i rates s).lbl = s.lbl := by
  simp [State.makeAnnounce]
@[simp] theorem State.makeAnnounce_prn (st : Station) (o : Order) (i : Item) (rates : RateSnapshot) : (State.makeAnnounce st o i rates s).prn = s.prn := by
  simp [State.makeAnnounce]
@[simp] theorem State.makeAnnounce_flt (st : Station) (o : Order) (i : Item) (rates : RateSnapshot) : (State.makeAnnounce st o i rates s).flt = s.flt := by
  simp [State.makeAnnounce]
@[simp] theorem State.makeAnnounce_pending (st : Station) (o : Order) (i : Item) (rates : RateSnapshot) : (State.makeAnnounce st o i rates s).pending = s.pending := by
  simp [State.makeAnnounce]
@[simp] theorem State.tryAnnounce_clk (st : Station) (o : Order) (i : Item) : (State.tryAnnounce st o i s).clk = s.clk := by
  simp only [State.tryAnnounce]; (repeat' split) <;> simp
@[simp] theorem State.tryAnnounce_lbl (st : Station) (o : Order) (i : Item) : (State.tryAnnounce st o i s).lbl = s.lbl := by
  simp only [State.tryAnnounce]; (repeat' split) <;> simp
@[simp] theorem State.tryAnnounce_flt (st : Station) (o : Order) (i : Item) : (State.tryAnnounce st o i s).flt = s.flt := by
  simp only [State.tryAnnounce]; (repeat' split) <;> simp
@[simp] theorem State.tryAnnounce_pending (st : Station) (o : Order) (i : Item) : (State.tryAnnounce st o i s).pending = s.pending := by
  simp only [State.tryAnnounce]; (repeat' split) <;> simp
@[simp] theorem State.advanceSeparator_clk (st : Station) (o : Order) : (State.advanceSeparator st o s).clk = s.clk := by
  simp only [State.advanceSeparator]; (repeat' split) <;> simp
@[simp] theorem State.advanceSeparator_lbl (st : Station) (o : Order) : (State.advanceSeparator st o s).lbl = s.lbl := by
  simp only [State.advanceSeparator]; (repeat' split) <;> simp
@[simp] theorem State.advanceSeparator_flt (st : Station) (o : Order) : (State.advanceSeparator st o s).flt = s.flt := by
  simp only [State.advanceSeparator]; (repeat' split) <;> simp
@[simp] theorem State.advanceSeparator_pending (st : Station) (o : Order) : (State.advanceSeparator st o s).pending = s.pending := by
  simp only [State.advanceSeparator]; (repeat' split) <;> simp

end

end Sys2Proof.Machine
end

