-- ==== Sys2Proof/Tests/Slice0.lean ====
section
/-! SUPPORT. The model's own tests: ill-formed commands, the host frame, the manual's worked figures, single steps, and for
each statement with hypotheses a state and operands that meet them. -/

namespace Sys2Proof.Tests

open Sys2Proof Sys2Proof.Machine

/-- Text from character codes. -/
def text (cs : List Nat) : Text := cs.map (BitVec.ofNat 8)

/-! ### WellFormed: an ill-formed command for each check -/

theorem test_tag_zero_refused : (Instr.ident 0 (.fields ())).wellFormed = false := by decide
theorem test_wide_order_refused : (Instr.hold 1 (.fields { order := 65536 })).wellFormed = false := by decide
theorem test_wide_class_refused : (Instr.orderPriority 1 (.fields { order := 1, cls := 256 })).wellFormed = false := by
  decide
theorem test_wide_offset_refused : (Instr.itemAdd 1 (.fields
    { order := 1, offset := 32768, filter := 0, copies := 1, callNumber := text [65], title := none, note := none })
    ).wellFormed = false := by decide
theorem test_wide_station_refused : (Instr.placed 1 (.fields { station := 256 })).wellFormed = false := by decide
theorem test_wide_calibration_refused : (Instr.stationSet 1 (.fields
    { station := 0, settings := { coldSettings with calibration := 128 } })).wellFormed = false := by decide
theorem test_wide_amount_refused : (Instr.adjust 1 (.fields { slot := 1, amount := -8388609 })).wellFormed = false := by
  decide
theorem test_wide_limit_refused : (Instr.accountSet 1 (.fields
    { slot := 1, name := text [65], cls := 1, limit := 4294967296 })).wellFormed = false := by decide
theorem test_long_action_list_refused : (Instr.cull 1 (.fields
    { roll := 1, first := 1, actions := List.replicate 256 .keep })).wellFormed = false := by decide +kernel
theorem test_long_text_refused : (Instr.stockSet 1 (.fields
    { code := 1, speed := 0, name := List.replicate 256 65 })).wellFormed = false := by decide +kernel
theorem test_long_literal_refused : (Instr.templateLoad 1 (.fields
    { template := 1, lines := [[.literal (List.replicate 256 65)]] })).wellFormed = false := by decide +kernel
/-- A line with one literal of 244 characters is 249 payload bytes, one more than a frame carries (R195). -/
theorem test_long_template_refused : (Instr.templateLoad 1 (.fields
    { template := 1, lines := [[.literal (List.replicate 244 65)]] })).wellFormed = false ∧
    (Instr.templateLoad 1 (.fields { template := 1, lines := [[.literal (List.replicate 243 65)]] })).wellFormed = true := by
  decide +kernel
theorem test_long_texts_refused : (Instr.itemAdd 1 (.fields
    { order := 1, offset := 0, filter := 0, copies := 1, callNumber := List.replicate 100 65
      title := some (List.replicate 140 65), note := none })).wellFormed = false := by decide +kernel
theorem test_known_kind_refused : (Instr.unknownKind 1 53).wellFormed = false := by decide

/-! ### The host frame (R195, R196) -/

/-- The check value of spec/11: '1' to '9' give 0x29B1. -/
theorem test_crc : crc16 (text [49, 50, 51, 52, 53, 54, 55, 56, 57]) = 0x29B1 := by decide +kernel

/-- ORDER_SUBMIT of order 301, tag 7: sync, length, kind, tag, order id high byte first. -/
theorem test_frame_layout : (hostFrame 3 7 [0x01, 0x2D]).take 6 = [0xA5, 4, 3, 7, 0x01, 0x2D] := by decide +kernel
theorem test_frame_received :
    (Receiver.hunting.takeAll ((hostFrame 3 7 [0x01, 0x2D]).map HostChar.byte)).2.getLast? =
      some (.good { kind := 3, tag := 7, payload := [0x01, 0x2D] }) := by decide +kernel
theorem test_bad_crc_discarded :
    (Receiver.hunting.takeAll [.byte 0xA5, .byte 2, .byte 51, .byte 1, .byte 0, .byte 0]).2.getLast? = some .bad := by
  decide +kernel

theorem test_decode_order_submit : decodeRequest 3 7 [0x01, 0x2D] = .orderSubmit 7 (.fields { order := 301 }) := by
  decide
theorem test_decode_load : decodeRequest 21 7 [1, 15] = .load 7 (.fields { station := 1, stock := 15 }) := by decide
theorem test_decode_placed : decodeRequest 12 7 [2] = .placed 7 (.fields { station := 2 }) := by decide
theorem test_decode_gen_clear : decodeRequest 18 7 [] = .genClear 7 (.fields ()) := by decide
theorem test_decode_adjust : decodeRequest 33 7 [5, 0xFF, 0xFF, 0x9C] =
    .adjust 7 (.fields { slot := 5, amount := -100 }) := by decide
theorem test_decode_journal_release : decodeRequest 35 7 [0, 0, 1, 0] =
    .journalRelease 7 (.fields { number := 256 }) := by decide
theorem test_decode_label_frame : decodeRequest 39 7 [0, 42, 30, 1] =
    .labelFrame 7 (.fields { roll := 42, frame := 30, charge := true }) := by decide
theorem test_decode_template_lock : decodeRequest 43 7 [12] = .templateLock 7 (.fields { template := 12 }) := by decide
theorem test_decode_printer_set : decodeRequest 47 7 [1, 2] = .printerSet 7 (.fields { enable := true, window := 2 }) := by
  decide
theorem test_decode_fault_clear : decodeRequest 50 7 [4] = .faultClear 7 (.fields { unit := 4 }) := by decide
theorem test_decode_short_payload : decodeRequest 21 7 [1] = .load 7 .malformed := by decide
theorem test_decode_bad_flag : decodeRequest 47 7 [2, 2] = .printerSet 7 .malformed := by decide
theorem test_decode_unknown : decodeRequest 54 7 [] = .unknownKind 7 54 := by decide

/-! ### The manual's worked figures -/

/-- Section 3.7, the four-frame item under NEAREST_EVEN: R, level, achieved, pops, energy. -/
theorem test_plan_centre : let p := planOf .nearestEven 23
    (p.level, p.achieved, p.deviation, p.pops, p.energy) = (2, 25, 2, 8, 320) := by decide
theorem test_plan_minus_six : let p := planOf .nearestEven 17
    (p.level, p.achieved, p.deviation, p.pops, p.energy) = (1, 18, 1, 4, 204) := by decide
theorem test_plan_less_light : let p := planOf .lessLight 17
    (p.level, p.achieved, p.deviation, p.energy) = (2, 14, -3, 160) := by decide
theorem test_plan_more_light : let p := planOf .moreLight 23
    (p.level, p.achieved, p.deviation, p.energy) = (2, 25, 2, 320) := by decide
/-- R = 16, a tie toward more light; and R = 44, clamped with OVER. -/
theorem test_plan_tie : let p := planOf .nearestEven 16
    (p.level, p.achieved, p.deviation, p.energy) = (2, 14, -2, 160) := by decide
theorem test_plan_over : let p := planOf .nearestEven 44
    (p.level, p.achieved, p.deviation, p.overFlag, p.energy) = (0, 33, -11, true, 512) := by decide
/-- R54's lookups. -/
theorem test_bellows : [9, 50, 99, 137, 249, 299, 300].map bellowsCorrection = [0, 14, 22, 28, 38, 43, 48] := by decide
/-- R25, B = 3, s = 6, CENTRE_FIRST, 2 copies. -/
theorem test_planned_frames : (plannedFrames { count := 3, step := 6, sequence := .centreFirst } 2).map Entry.offset =
    [0, -6, 6, 0] := by decide
/-- R148's table: 14.03.24 09:30, 29.02.96 and 31.12.99. -/
theorem test_date : renderDate 12728730 = text [49, 52, 46, 48, 51, 46, 50, 52] := by decide
theorem test_leap_date : renderDate 50577840 = text [50, 57, 46, 48, 50, 46, 57, 54] := by decide
theorem test_last_date : renderDate 52595999 = text [51, 49, 46, 49, 50, 46, 57, 57] := by decide
theorem test_time : renderTime 12728730 = text [48, 57, 58, 51, 48] := by decide
/-- R166's table: -3/2, +1/4 and -3. -/
theorem test_mark_fraction : stopsText (-18) = text [45, 51, 47, 50] := by decide
theorem test_mark_quarter : stopsText 3 = text [43, 49, 47, 52] := by decide
theorem test_mark_whole : stopsText (-36) = text [45, 51] := by decide
/-- R164: 34 characters are cut to 23 and a tilde. -/
theorem test_cut_line : (cutLine (List.replicate 34 65)).length = 24 ∧
    (cutLine (List.replicate 34 65)).getLast? = some 0x7E := by decide

/-- A template slot with content. -/
def slotWith (id : Nat) : TemplateSlot := { tag := some id, locked := false, content := some [[]] }
/-- The store of the worked example of section 8.7: slots 1 to 6, most recent first. -/
def storeLbl : Lbl :=
  { jobs := [], slots := [10, 11, 12, 13, 14, 15].map slotWith ++ [emptySlot, emptySlot], lru := [6, 5, 4, 3, 2, 1] }
/-- A new id takes the lowest empty slot; with none empty, the last unlocked one of the LRU order. -/
theorem test_store_empty_first : storeLbl.findSlot? = some 6 := by decide
theorem test_store_evicts_oldest :
    ({ storeLbl with slots := [10, 11, 12, 13, 14, 15, 20, 21].map slotWith, lru := [8, 7, 3, 6, 5, 4, 2, 1] } :
      Lbl).findSlot? = some 0 := by decide

/-! ### Small states -/

/-- A READY station A with a cassette roll of stock 1 at frame 12, the other stations cold. -/
def roll : Roll :=
  { number := 42, station := some .a, stock := 1, back := .cassette, capacity := 36, next := 12, state := .opened
    short := false, openedInLight := false, uncertainFrame := false, loadDate := none }
def item : Item :=
  { number := 1, offset := 5, filter := 0, copies := 2, callNumber := text [78], title := none, note := none
    state := .inProgress, framesDone := 0 }
def order (x : OrderState) (b : Option Station) : Order :=
  { id := 301, state := x, account := 5, cls := 1, preference := .any, stock := 1
    bracket := { count := 3, step := 6, sequence := .centreFirst }, template := 12, lecturer := text [65], bound := b
    arrival := some 1, items := [item], nextItem := 1 }
def account : Account :=
  { slot := 5, name := text [65], cls := 2, limit := 0, charged := 0, mounted := 0, adjusted := 0, reserved := 670 }
def plan : ShotPlan := planOf .nearestEven 23
def context : ItemContext :=
  { order := 301, item := 1, account := 5, entries := plannedFrames (order .active none).bracket 2, nextIndex := 1
    rates := { centre := 250, bracket := 120, copy := 180 }, remaining := 670, records := 5, retake := 0
    slotHeld := false, request := .none, plan := none, recorded := false }
/-- The part with station A in a mode with the item above announced, and the transmitter busy. -/
def stand (m : Mode) (c : Option ItemContext) (x : OrderState) : State :=
  let s := State.reset
  let q : Sequencer := { coldSequencer with mode := m, context := c, current := c.map ItemContext.order }
  { s with
    ord := { orders := [order x (some .a)], arrival := 2 }
    seqs := { s.seqs with a := q }
    rol := { stocks := [{ code := 1, speed := 3, name := text [65] }], rolls := [roll], frames := [], reserved := 5
             lastRoll := 42 }
    acc := { s.acc with accounts := [account] } }

/-- The next state of an outcome. -/
def nextOf (o : Host.Outcome State Fault Refusal) : Option State :=
  match o with
  | .next t => some t
  | .fault _ | .refused _ => none

/-- The status of the reply that a request leaves last in the reply list. -/
def statusOf (c : Instr) (s : State) : Option Status :=
  (nextOf (exec c s)).bind fun t => t.lnk.replies.getLast?.map Reply.status

/-- What a field of the next state is. -/
def after {α : Type} (c : Instr) (s : State) (f : State → α) : Option α := (nextOf (exec c s)).map f

def announced : State := stand .announced (some context) .active
def ready : State := stand .ready none .waiting
def idle (m : Mode) : State := stand m none .waiting
/-- Station A EXPOSING with its plan and the generator's grant, `n` pops given. -/
def exposing (n : Nat) : State :=
  let c := { context with plan := some { plan := plan, fired := n, confirmed := n - 1 }, request := .granted
                          slotHeld := true }
  let s := stand .exposing (some c) .active
  let g := { s.gen with mode := .firing, output := .level 2, windowTimer := some 20
                        holder := some { station := .a, given := n, pending := none } }
  let q := { s.seqs.a with popWait := .act }
  { s with gen := g, seqs := { s.seqs with a := q }, jnl := { s.jnl with reserved := 1 } }
/-- Station A's drive in a move with `n` pulses counted. -/
def moving (s : State) (m : Move) (n : Nat) : State :=
  let d := { s.drives.a with move := some m, pulses := n, motor := .forward, advanceTimer := some 1500 }
  { s with drives := { s.drives with a := d } }

/-! ### Requests: one step each (R3 to R18) -/

def openReq : OrderOpenReq :=
  { order := 302, account := 5, cls := 3, preference := .any, stock := 15
    bracket := { count := 7, step := 12, sequence := .ascending }, template := 255, lecturer := text [65] }
def addReq (z : Int) : ItemAddReq :=
  { order := 301, offset := z, filter := 4, copies := 4, callNumber := text [65], title := some [], note := none }

theorem test_order_open : statusOf (.orderOpen 7 (.fields openReq)) ready = some .ok := by decide
theorem test_order_open_busy : statusOf (.orderOpen 7 (.fields { openReq with order := 301 })) ready = some .busy := by
  decide
theorem test_item_add_clamps : after (.itemAdd 7 (.fields (addReq 60))) (stand .ready none .draft)
    (fun t => t.ord.orders.flatMap fun o => o.items.map fun i => (i.offset, i.title)) =
    some [(5, none), (48, none)] := by decide
theorem test_item_add_state : statusOf (.itemAdd 7 (.fields (addReq 0))) ready = some .state := by decide
theorem test_submit_numbers : after (.orderSubmit 7 (.fields { order := 301 })) (stand .unloaded none .draft)
    (fun t => (t.ord.arrival, t.ord.orders.map fun o => (o.state, o.arrival))) = some (3, [(.waiting, some 2)]) := by
  decide
theorem test_hold : after (.hold 7 (.fields { order := 301 })) (stand .unloaded none .waiting)
    (fun t => t.ord.orders.map Order.state) = some [.held .host] := by decide
/-- RELEASE lets the READY station take the order and announce its item (R8, R13, R29). -/
theorem test_release_dispatches : after (.release 7 (.fields { order := 301 })) (stand .ready none (.held .host))
    (fun t => ((t.seq .a).mode, t.ord.orders.map Order.state)) = some (.announced, [.active]) := by decide
theorem test_priority : after (.orderPriority 7 (.fields { order := 301, cls := 3 })) ready
    (fun t => t.ord.orders.map Order.cls) = some [3] := by decide
theorem test_cancel_frees : after (.orderCancel 7 (.fields { order := 301 })) ready (fun t => t.ord.orders) = some [] := by
  decide
theorem test_cancel_active_busy : statusOf (.orderCancel 7 (.fields { order := 301 })) announced = some .busy := by
  decide
theorem test_order_read : statusOf (.orderRead 7 (.fields { order := 301 })) ready = some .ok := by decide
theorem test_item_read : statusOf (.itemRead 7 (.fields { order := 301, item := 2 })) ready = some .notFound := by
  decide

/-! ### Stations (R20 to R49) -/

theorem test_station_set : statusOf (.stationSet 7 (.fields { station := 0, settings := coldSettings })) ready =
    some .ok := by decide
theorem test_station_set_back : statusOf
    (.stationSet 7 (.fields { station := 0, settings := { coldSettings with back := .bulk } })) ready = some .busy := by
  decide
theorem test_input_take : statusOf (.inputTake 7 (.fields { station := 2 })) ready = some .ok := by decide
theorem test_station_read_number : statusOf (.stationRead 7 (.fields { station := 3 })) ready = some .badField := by
  decide
/-- Placement reserves a slot, plans the entry and places a request: R = 5 − 12 = −7 rounds to one pop at level 2, E = 40
(R33, R34, R60). -/
theorem test_placed_requests : after (.placed 7 (.fields { station := 0 })) announced
    (fun t => ((t.seq .a).mode, t.jnl.reserved, t.gen.mode, t.gen.requests.map GenRequest.energy)) =
    some (.exposing, 1, .charging, [40]) := by decide
theorem test_foot_disabled : after (.footSwitchEdge .a .press) announced (fun t => (t.seq .a).mode) = some .announced := by
  decide
theorem test_skip_item : after (.skipItem 7 (.fields { station := 0 })) announced
    (fun t => ((t.seq .a).mode, t.ord.orders, t.rol.reserved)) = some (.ready, [], 0) := by decide
/-- ABORT before a pop: the order is WAITING, the station READY, and dispatch gives the order back (R43). -/
theorem test_abort : after (.abort 7 (.fields { station := 0 })) announced
    (fun t => ((t.seq .a).mode, t.rol.reserved)) = some (.announced, 5) := by decide
/-- Fewer than 8 pops confirmed: the next pop is asked for, and waits for the recharge (R35, R76). -/
theorem test_pop_confirmed : after .flashSensorReport (exposing 1)
    (fun t => (t.gen.heat, t.gen.mode, t.gen.holder.bind Holder.pending, (t.seq .a).mode)) =
    some (40, .charging, some 2, .exposing) := by decide
/-- The eighth pop: frame 12 recorded EXPOSED, 250 posted, the film advanced (the row of section 2.6). -/
theorem test_frame_completed : after .flashSensorReport (exposing 8)
    (fun t => (t.rol.frames.map Frame.number, t.jnl.entries.map JournalEntry.amount,
      t.acc.accounts.map Account.charged, t.acc.accounts.map Account.reserved, (t.seq .a).mode)) =
    some ([12], [250], [250], [420], .advancing) := by decide
/-- A misfire: frame 12 SPOILED, the slot and one record given back, retake 1 (R39). -/
theorem test_misfire : after .flashConfirmWindowExpiry (exposing 2)
    (fun t => (t.rol.frames.map Frame.kind, t.jnl.reserved, (t.seq .a).context.map fun c => (c.retake, c.records))) =
    some ([.spoiled], 0, some (1, 4)) := by decide
/-- The same station on the retake of its frame. -/
def repeating : State :=
  let s := exposing 2
  { s with seqs := { s.seqs with a :=
    { s.seqs.a with context := s.seqs.a.context.map fun c => { c with retake := 1 } } } }
/-- The frame of a repeated misfire is SPOILED too, with the fault captured first (R40). -/
theorem test_repeated_misfire : after .flashConfirmWindowExpiry repeating
    (fun t => (t.rol.frames.map Frame.kind, t.flt.stationA.map Capture.kind, (t.seq .a).repeatMisfire)) =
    some ([.spoiled], some (.station .misfireRepeat), true) := by decide

/-! ### The generator (R72 to R91) -/

theorem test_gen_read : statusOf (.genRead 7 (.fields ())) ready = some .ok := by decide
def faulted : State := { ready with gen := { ready.gen with mode := .fault } }
theorem test_gen_clear : after (.genClear 7 (.fields ())) faulted (fun t => t.gen.mode) = some .off := by decide
theorem test_gen_clear_state : statusOf (.genClear 7 (.fields ())) ready = some .state := by decide
def charging : State := { ready with gen := { ready.gen with mode := .charging, chargeTimer := some 6000 } }
theorem test_ready_rise : after .readyInputRise charging (fun t => t.gen.mode) = some .ready := by decide
theorem test_charge_timeout : after .chargeTimerExpiry charging (fun t => (t.gen.mode, t.flt.gen.isSome)) =
    some (.fault, true) := by decide
/-- The station whose request waits acts behind GENERATOR_STATE (R87): FAULT, GENERATOR_STATE, ORDER_HELD, STATION_STATE. -/
theorem test_charge_timeout_order :
    let s := stand .exposing (some { context with request := .waiting }) .active
    after .chargeTimerExpiry
      { s with gen := { charging.gen with requests := [{ station := .a, cls := 1, energy := 320 }] } }
      (fun t => (t.lnk.notices.drop 4).map Notice.kindByte) = some [140, 137, 132, 129] := by decide
theorem test_ready_fall : after .readyInputFall { ready with gen := { ready.gen with mode := .ready } }
    (fun t => t.gen.mode) = some .charging := by decide
theorem test_cooling : after .cooling { ready with gen := { ready.gen with heat := 512 } } (fun t => t.gen.heat) =
    some 511 := by decide
theorem test_cooling_empty : after .cooling ready (fun t => t.gen.heat) = some 0 := by decide
theorem test_idle : after .idleDischarge { charging with gen := { charging.gen with idleTimer := some 900000 } }
    (fun t => t.gen.mode) = some .off := by decide
/-- The heat gate's third row: 260 + 64 is granted; its first: 300 + 320 is not (R83). -/
def gate (heat energy : Nat) : State :=
  { announced with gen :=
    { announced.gen with mode := .ready, heat := heat, requests := [{ station := .a, cls := 1, energy := energy }]
                         chosen := some .a } }
theorem test_heat_gate : ((gate 192 320).testChosen.gen.holder.isSome, (gate 300 320).testChosen.gen.holder.isSome) =
    (true, false) := by decide

/-! ### Film (R92 to R117) -/

theorem test_stock_set : statusOf (.stockSet 7 (.fields { code := 15, speed := -9, name := text [65] })) ready =
    some .ok := by decide
theorem test_stock_in_use : statusOf (.stockSetRemove 7 (.fields { code := 1 })) ready = some .busy := by decide
theorem test_stock_remove : after (.stockSetRemove 7 (.fields { code := 1 }))
    { ready with rol := { ready.rol with rolls := [] } } (fun t => t.rol.stocks) = some [] := by decide
theorem test_load : after (.load 7 (.fields { station := 1, stock := 1 })) ready
    (fun t => (t.rol.rolls.map Roll.number, (t.seq .b).mode, (t.drive .b).move)) =
    some ([42, 43], .loading, some .leader) := by decide
theorem test_load_loaded : statusOf (.load 7 (.fields { station := 0, stock := 1 })) ready = some .state := by
  decide
theorem test_unload_early : after (.unloadEarly 7 (.fields { station := 0 })) ready
    (fun t => ((t.seq .a).mode, t.rol.rolls.map fun r => (r.capacity, r.state))) =
    some (.ending, [(11, .rewinding)]) := by decide
def interrupted (x : FormerState) : State :=
  let s := idle .interrupted
  { s with rol := { s.rol with rolls := [{ roll with state := .interrupted x }] } }
theorem test_confirm_roll : after (.confirmRoll 7 (.fields { station := 0 })) (interrupted .opened)
    (fun t => (t.rol.frames.map Frame.kind, (t.drive .a).move)) = some ([.recovery], some .advance) := by decide
theorem test_confirm_rewind : after (.confirmRoll 7 (.fields { station := 0 })) (interrupted .rewinding)
    (fun t => ((t.seq .a).mode, (t.drive .a).motor)) = some (.ending, .reverse) := by decide
theorem test_declare_unloaded : after (.declareUnloaded 7 (.fields { station := 0 })) (interrupted .opened)
    (fun t => ((t.seq .a).mode, t.rol.rolls.map fun r => (r.state, r.uncertainFrame))) =
    some (.unloaded, [(.out, true)]) := by decide
/-- A roll that is OUT with one EXPOSED frame of an order that is gone. -/
def frame (v : Verdict) : Frame :=
  { roll := 42, number := 11, kind := .exposed, exposure := none, charged := true, date := none, suspect := false
    verdict := v, label := .none, duplicateRisk := false, uncertain := false }
def out (v : Verdict) : State :=
  let s := ready
  { s with rol := { s.rol with rolls := [{ roll with state := .out, station := none }], frames := [frame v] } }
theorem test_cull : after (.cull 7 (.fields { roll := 42, first := 11, actions := [.keep] })) (out .none)
    (fun t => t.rol.frames.map Frame.verdict) = some [.keep] := by decide
theorem test_close_roll_unsettled : statusOf (.closeRoll 7 (.fields { roll := 42, force := false })) (out .keep) =
    some .state := by decide
theorem test_close_roll_forced : after (.closeRoll 7 (.fields { roll := 42, force := true })) (out .keep)
    (fun t => (t.rol.rolls, t.rol.frames)) = some ([], []) := by decide
theorem test_frame_read : statusOf (.frameRead 7 (.fields { roll := 42, first := 250, count := 8 })) ready = some .ok := by
  decide
/-- The eighth pulse completes an advance, the seventh does not (R98). -/
theorem test_eighth_pulse :
    [6, 7].map (fun n => after (.sprocketPulse .a) (moving ready .advance n) fun t => (t.drive .a).move) =
      [some (some .advance), some none] := by decide
theorem test_advance_timeout : after (.advanceTimeout .a) (moving announced .advance 3)
    (fun t => ((t.seq .a).mode, t.flt.stationA.map Capture.kind)) = some (.fault, some (.station .jam)) := by
  decide
/-- Station A ADVANCING after the last entry of its item. -/
def spent : State :=
  moving (stand .advancing (some { context with nextIndex := 5, remaining := 0, records := 1 }) .active) .advance 7
theorem test_end_at_rest : after (.endOfFilmSensor .a) ready (fun t => (t.drive .a).endSeen) = some true := by
  decide
theorem test_rewind_done : after (.rewindDone .a) (moving (idle .ending) .rewind 0)
    (fun t => ((t.seq .a).mode, t.rol.rolls.map Roll.state)) = some (.awaitUnload, [.full]) := by decide
theorem test_rewind_timer : after (.rewindTimerExpiry .a)
    { ready with drives := { ready.drives with a := { ready.drives.a with rewindTimer := some 60000 } } }
    (fun t => (t.seq .a).mode) = some .fault := by decide
theorem test_door_opened : after (.doorOpened .a) announced
    (fun t => ((t.seq .a).mode, t.rol.rolls.map fun r => (r.state, r.openedInLight), t.rol.reserved)) =
    some (.unloaded, [(.out, true)], 0) := by decide
theorem test_door_closed : after (.doorClosed .a) ready (fun t => (t.drive .a).door) = some .closed := by decide

/-! ### Accounts, journal, clock (R118 to R148) -/

theorem test_tariff_set : statusOf (.tariffSet 7 (.fields
    { cls := 4, centre := 9999, bracket := 0, copy := 0, mount := 0 })) ready = some .ok := by decide
theorem test_tariff_read : statusOf (.tariffRead 7 (.fields ())) ready = some .ok := by decide
theorem test_account_set : after (.accountSet 7 (.fields { slot := 1, name := text [65], cls := 4, limit := 99999999 }))
    ready (fun t => t.acc.accounts.map Account.slot) = some [1, 5] := by decide
theorem test_account_below : statusOf (.accountSet 7 (.fields { slot := 5, name := text [65], cls := 1, limit := 669 }))
    ready = some .belowCommitted := by decide
theorem test_account_clear_busy : statusOf (.accountClear 7 (.fields { slot := 5 })) ready = some .busy := by decide
theorem test_account_clear : after (.accountClear 7 (.fields { slot := 5 }))
    { State.reset with acc := { State.reset.acc with accounts := [{ account with reserved := 0 }] } }
    (fun t => t.acc.accounts) = some [] := by decide
theorem test_account_read : statusOf (.accountRead 7 (.fields { slot := 5 })) ready = some .ok := by decide
theorem test_adjust : after (.adjust 7 (.fields { slot := 5, amount := -350 })) ready
    (fun t => (t.acc.accounts.map Account.adjusted, t.jnl.entries.map fun e => (e.seq, e.amount), t.jnl.next)) =
    some ([-350], [(1, -350)], 2) := by decide
theorem test_adjust_over_limit : statusOf (.adjust 7 (.fields { slot := 5, amount := 1 }))
    { ready with acc := { ready.acc with accounts := [{ account with limit := 670 }] } } = some .overLimit := by
  decide
def entry (n : Nat) : JournalEntry :=
  { seq := n, kind := .adjust, account := 5, amount := 1, order := none, item := none, roll := none, frame := none
    date := none }
def journal (s : State) (k : Nat) : State :=
  { s with jnl := { s.jnl with entries := (List.range k).map fun n => entry (n + 1), next := k + 1 } }
theorem test_journal_read : statusOf (.journalRead 7 (.fields { count := 9 })) ready = some .badField := by decide
theorem test_journal_release : after (.journalRelease 7 (.fields { number := 2 })) (journal ready 3)
    (fun t => t.jnl.entries.map JournalEntry.seq) = some [3] := by decide
theorem test_journal_release_unknown : statusOf (.journalRelease 7 (.fields { number := 4 })) (journal ready 3) =
    some .notFound := by decide
theorem test_clock_set : after (.clockSet 7 (.fields { value := 52595999 })) ready (fun t => (t.clk.minutes, t.clk.timer)) =
    some (52595999, some 60000) := by decide
theorem test_clock_read : statusOf (.clockRead 7 (.fields ())) ready = some .ok := by decide
theorem test_minute : after .minuteTimerExpiry { ready with clk := { minutes := 1439, timer := some 60000 } }
    (fun t => t.clk.minutes) = some 1440 := by decide
theorem test_minute_highest : after .minuteTimerExpiry { ready with clk := { minutes := 52595999, timer := some 60000 } }
    (fun t => t.clk.minutes) = some 52595999 := by decide
/-- A station that waits in HELD for a slot, told of room. -/
def waiting : State :=
  let s := stand (.held .journalFull) (some context) .active
  { s with seqs := { s.seqs with a := { s.seqs.a with roomReport := true } } }
theorem test_station_slot : after (.stationSlotRequest .a) waiting (fun t => ((t.seq .a).mode, t.jnl.reserved)) =
    some (.exposing, 1) := by decide

/-! ### Labels and the printer (R149 to R183) -/

theorem test_label_cancel : statusOf (.labelCancel 7 (.fields { roll := 42 })) (out .keep) = some .ok := by decide
theorem test_label_read : statusOf (.labelRead 7 (.fields { first := 96, count := 8 })) ready = some .ok := by decide
def shot : Exposure :=
  { order := 301, item := 1, index := 1, kind := .centre, offset := 0, level := 2, pops := 8, achieved := 25
    deviation := 2, overFlag := false, underFlag := false }
/-- The same roll with its frame naming order 301, EXPOSED as an order. -/
def kept : State :=
  { stand .ready none .exposed with
    rol := { ready.rol with rolls := [{ roll with state := .out, station := none }]
                            frames := [{ frame .keep with exposure := some shot }] } }
/-- The job is queued, and the head waits for template 12 (R151, R162). -/
theorem test_label_roll : after (.labelRoll 7 (.fields { roll := 42 })) kept
    (fun t => t.lbl.jobs.map fun j => (j.frame, j.template, j.state)) = some [(11, 12, .templateWait)] := by decide
theorem test_label_frame : after (.labelFrame 7 (.fields { roll := 42, frame := 11, charge := true })) kept
    (fun t => t.rol.frames.map Frame.label) = some [.queued] := by decide
theorem test_template_load : after (.templateLoad 7 (.fields { template := 12, lines := [[.field .call]] })) ready
    (fun t => (t.lbl.lru, t.lbl.slots.head?.bind TemplateSlot.tag)) = some ([1], some 12) := by decide
theorem test_template_lock : after (.templateLock 7 (.fields { template := 30 })) { ready with lbl := storeLbl }
    (fun t => t.lbl.lru) = some [7, 6, 5, 4, 3, 2, 1] := by decide
/-- Section 8.7's TEMPLATE_LOCK 12: slot 3 to the front. -/
theorem test_template_lock_resident : after (.templateLock 7 (.fields { template := 12 })) { ready with lbl := storeLbl }
    (fun t => t.lbl.lru) = some [3, 6, 5, 4, 2, 1] := by decide
theorem test_template_unlock : statusOf (.templateUnlock 7 (.fields { template := 15 })) { ready with lbl := storeLbl } =
    some .ok := by decide
theorem test_template_drop : after (.templateDrop 7 (.fields { template := 15 })) { ready with lbl := storeLbl }
    (fun t => t.lbl.lru) = some [5, 4, 3, 2, 1] := by decide
theorem test_template_read : statusOf (.templateRead 7 (.fields { template := 0 })) ready = some .ok := by decide

theorem test_printer_set : after (.printerSet 7 (.fields { enable := true, window := 8 })) ready
    (fun t => (t.prn.state, t.prn.window)) = some (.idle, 8) := by decide
theorem test_printer_set_window : statusOf (.printerSet 7 (.fields { enable := true, window := 9 })) ready =
    some .badField := by decide
theorem test_printer_status : statusOf (.printerStatus 7 (.fields { ask := true })) ready = some .ok := by decide
/-- The link SENDING the label of frame 11 with sequence 0, its slot reserved. -/
def sending : State :=
  let job : LabelJob :=
    { roll := 42, frame := 11, template := 12, charge := true, state := .sent 0, lines := some [[], [], [], []] }
  { kept with
    lbl := { kept.lbl with jobs := [job] }
    jnl := { kept.jnl with reserved := 1 }
    prn := { kept.prn with state := .sending, enabled := true, nextSeq := 1, printerTimer := some 10000
                           inFlight := [{ roll := 42, frame := 11, seq := 0, slotHeld := true }] } }
/-- A job for the frame that the link has in flight. -/
def job (x : JobState) (lines : Option (List Text)) : LabelJob :=
  { roll := 42, frame := 11, template := 12, charge := true, state := x, lines := lines }
/-- The link SENDING one job, another in the queue behind it. -/
def labelled (x : JobState) : State :=
  { sending with lbl := { sending.lbl with jobs := sending.lbl.jobs ++ [job x none] } }
theorem test_printer_done : after (.printerDone 0) sending
    (fun t => (t.prn.state, t.rol.frames.map Frame.label, t.jnl.entries.map JournalEntry.kind, t.lbl.jobs)) =
    some (.idle, [.printed], [.mount], []) := by decide
def char (n : Nat) : PrinterChar := { char := BitVec.ofNat 8 n, parityError := false }
/-- A D that names another job is OUT_OF_ORDER (R177); a D behind a partial frame captures that one BAD_FRAME and acts
(R170). -/
theorem test_printer_done_captures :
    after (.printerDone 1) sending
      (fun t => (t.prn.state, t.flt.prn.map Capture.kind, t.lbl.jobs.map LabelJob.state, t.jnl.reserved)) =
      some (.held, some .outOfOrder, [.queued], 0) ∧
    after (.printerDone 0) { sending with prn := { sending.prn with receiver := .collecting [char 2, char 48] } }
      (fun t => (t.flt.prn.map Capture.kind, t.prn.state, t.lbl.jobs)) = some (some .badFrame, .idle, []) := by decide
theorem test_printer_fault : after (.printerFault 3 .jam 0) sending
    (fun t => (t.prn.state, t.flt.prn.map fun c => (c.kind, c.frame))) = some (.held, some (.printerJam, some 11)) := by
  decide
def held : State := { kept with prn := { kept.prn with state := .held, enabled := true } }
theorem test_printer_ready : after (.printerReady 5) held (fun t => t.prn.state) = some .idle := by decide
theorem test_printer_timer : after .printerTimerExpiry sending
    (fun t => (t.prn.state, t.rol.frames.map Frame.duplicateRisk, t.prn.statusTimer)) =
    some (.asking, [true], some 10000) := by decide
theorem test_status_wait : after .statusWaitExpiry
    { held with prn := { held.prn with state := .asking, statusTimer := some 10000 } } (fun t => t.prn.state) =
    some .down := by decide
/-- STX, '0', 'D', ETX and a wrong check character is a bad frame; the right one completes a D (R170). -/
theorem test_bad_frame : after (.badFrame [char 2, char 48, char 68, char 3, char 0]) sending
    (fun t => t.flt.prn.map Capture.kind) = some (some .badFrame) := by decide
theorem test_good_printer_frame :
    (PrinterReceiver.hunting.takeAll [char 2, char 48, char 68, char 3, char 119]).2.getLast? =
      some (.good (.done 0)) ∧
    after (.badFrame [char 2, char 48, char 68, char 3, char 119]) sending (fun t => (t.prn.state, t.lbl.jobs)) =
      some (.idle, []) := by decide
/-- The Q with sequence character '1': the parity bit makes the count of ones odd (R169). -/
theorem test_ask_parity : (onLine (askFrame 1)).map (fun c => (c.data, c.parity)) =
    [(0x02, false), (0x31, false), (0x51, false), (0x03, true), (0x63, true)] := by decide
theorem test_printer_slot : after .printerSlotRequest
    { held with prn := { held.prn with state := .idle, paused := true, roomReport := true } } (fun t => t.prn.roomReport) =
    some false := by decide

/-! ### Faults, the link, resets (R184 to R204) -/

theorem test_fault_read : statusOf (.faultRead 7 (.fields { unit := 5 })) ready = some .badField := by decide
def captured : State := { ready with flt := { ready.flt with prn := some (bareCapture .badFrame) } }
/-- A station in FAULT for each cause, its move unfinished or not. -/
def failed (cause : StationFault) (unfinished : Bool) : State :=
  let s := idle .fault
  let x : FaultMemory := { before := .advancing, cause := cause, unfinished := unfinished }
  { s with seqs := { s.seqs with a := { s.seqs.a with faultMemory := some x } } }
/-- Two moves over. The advance after an item's last entry: the item ends DONE and with it the order, freed as no frame names
it (R9, R16, R38). A recovery pull with no order left to hold: the station is READY, and dispatch gives it the waiting order
(R190, R191). -/
theorem test_move_over :
    after (.sprocketPulse .a) spent (fun t => ((t.seq .a).mode, t.ord.orders, t.rol.reserved)) = some (.ready, [], 4) ∧
    after (.sprocketPulse .a) (moving (failed .jam true) .recovery 7)
      (fun t => ((t.seq .a).mode, (t.seq .a).faultMemory)) = some (.announced, none) := by decide
theorem test_fault_clear : after (.faultClear 7 (.fields { unit := 4 })) captured (fun t => t.flt.prn) = some none := by
  decide
theorem test_fault_clear_empty : statusOf (.faultClear 7 (.fields { unit := 3 })) captured = some .state := by
  decide
theorem test_ident : after (.ident 7 (.fields ())) ready (fun t => t.lnk.replies.map Reply.body) = some [.ident 1] := by
  decide
theorem test_status : after (.status 7 (.fields ())) { ready with lnk := { ready.lnk with requestOverflow := true } }
    (fun t => t.lnk.requestOverflow) = some false := by decide
theorem test_unknown_kind : statusOf (.unknownKind 7 54) ready = some .unknownKind := by decide
/-- A kind that names a request is that request's frame with no payload: IDENT runs, LOAD is malformed (R197). -/
theorem test_known_kind : statusOf (.unknownKind 7 51) ready = some .ok ∧
    statusOf (.unknownKind 7 21) ready = some .badField := by decide
theorem test_host_bad_frame : after (.hostBadFrame [.byte 0xA5]) ready (fun t => t.lnk.gapTimer) = some (some 50) := by
  decide
/-- A good frame that the characters complete is its request: GEN_CLEAR in OFF, tag 7, is answered STATE (R88, R197). -/
theorem test_host_frame_completed :
    after (.hostBadFrame ((hostFrame 18 7 []).map HostChar.byte)) ready (fun t => t.lnk.replies.map fun r => (r.tag, r.status)) =
    some [(7, .state)] := by decide +kernel
theorem test_gap : after .interByteGap
    { ready with lnk := { ready.lnk with receiver := .collecting [], gapTimer := some 50 } } (fun t => t.lnk.receiver) =
    some .hunting := by decide
theorem test_frame_sent : after .frameSent ready (fun t => t.lnk.transmitter) =
    some (some (.notice (.stationState .a .unloaded none))) := by decide
def pins (kept : Bool) : ResetPins :=
  { retentionHeld := kept, strap1 := true, strap2 := false, doorA := .closed, doorB := .closed, doorD := .opened
    readyInput := true }
theorem test_warm_reset : after (.reset (pins true)) announced
    (fun t => ((t.seq .a).mode, t.ord.orders.map Order.state, t.gen.heat, t.rol.reserved)) =
    some (.interrupted, [.held .reset], 512, 0) := by decide
theorem test_cold_reset : after (.reset (pins false)) announced (fun t => (t.ord.orders, t.rol.rolls)) = some ([], []) := by
  decide
theorem test_stand_reset : after (.standReset 7 (.fields ())) announced
    (fun t => ((t.seq .a).mode, t.rol.rolls.map Roll.state)) = some (.interrupted, [.interrupted .opened]) := by decide
/-- START stands before the notices queued, and counts them (R203). -/
theorem test_stand_start : announced.lnk.standReset.notices.head? = some (.start .stand 4) := by decide

/-! ### Witnesses: for each statement with hypotheses, a state and operands that meet them -/

/-- `ready` takes a request: its tag is not 0 and the reply list has room; at 7 replies it still has. -/
theorem accepted (s : State) (h : s.lnk.replies = []) : Accepts 7 s := ⟨by decide, by rw [h]; decide⟩
def reply : Reply := okReply 7 .ident
def crowded (n : Nat) : State := { ready with lnk := { ready.lnk with replies := List.replicate n reply } }

theorem witness_StepRunsFrontCommand : State.reset.pending = [] := rfl
theorem witness_DiscardedRequestsTouchNoBlock :
    requestTag? (.ident 0 (.fields ())) = some 0 ∧ requestTag? (.unknownKind 255 54) = some 255 ∧
    Config.maxReplies ≤ (crowded 8).lnk.replies.length := by decide
theorem witness_UnknownKindAndMalformedPayloadAnswered :
    malformedKind? (.load 7 .malformed) = some (.load, 7) ∧ Accepts 7 (crowded 7) ∧
    [0, 1, 53, 54].map namesRequest = [false, true, true, false] := ⟨rfl, ⟨by decide, by decide⟩, by decide⟩
theorem witness_ReadingReportsAndChangesNothing : readingKind? (.genRead 7 (.fields ())) = some (.genRead, 7) ∧
    Accepts 7 ready ∧ ready.order? 301 = some (order .waiting (some .a)) ∧ (order .waiting (some .a)).item? 1 = some item ∧
    stationOf? 2 = some .d ∧ ready.speed? 1 = some 3 ∧ ready.roll? 42 = some roll ∧ ready.account? 5 = some account ∧
    unitOf? 4 = some .prn ∧ (∀ j ∈ sending.lbl.jobs, j.isSent = true) ∧
    (labelled .queued).lbl.jobs = sending.lbl.jobs ++ job .queued none :: [] ∧ (job .queued none).isSent = false :=
  ⟨rfl, accepted _ rfl, by decide⟩
theorem witness_BadFramesTouchReceiverAlone :
    ((Receiver.hunting.takeAll ((hostFrame 51 7 []).map HostChar.byte)).2.any isRequestFrame) = true ∧
    ((Receiver.hunting.takeAll ((hostFrame 51 0 []).map HostChar.byte)).2.any isRequestFrame) = false ∧
    requestTag? (.ident 7 (.fields ())) = some 7 := by decide +kernel
theorem witness_IdentAndStatusAnswered : Accepts 7 ready := accepted _ rfl
theorem witness_HostFrameIsReceived : (List.replicate 248 (0 : Byte)).length ≤ 248 ∧
    (okReply 7 .ident (.ident 1)).body.bytes.length ≤ 247 ∧ (Notice.orderDone 301).bytes.length ≤ 248 :=
  ⟨by rw [List.length_replicate], by decide⟩
theorem witness_RequestEncodingReadsBack : (Instr.load 7 (.fields { station := 2, stock := 15 })).wellFormed = true ∧
    encodeRequest (.load 7 (.fields { station := 2, stock := 15 })) = some { kind := 21, tag := 7, payload := [2, 15] } := by
  decide
/-- One step that the statements about every step speak of: FRAME_SENT on the state that meets all four laws. -/
def queued : State := { ready with pending := [.frameSent] }
theorem witness_LinkListsStayBounded : LinkBounded queued ∧ ∃ t, step queued = .next t :=
  ⟨⟨by decide, by decide⟩, _, rfl⟩
theorem witness_OrderOpenCreatesDraft : Accepts 7 ready ∧ orderOpenInRange openReq ∧ ready.account? 5 ≠ none ∧
    ready.order? 302 = none ∧ ¬ 32 ≤ ready.ord.orders.length := ⟨accepted _ rfl, by decide⟩
theorem witness_ItemAddAppendsClamped : Accepts 7 (stand .ready none .draft) ∧ itemAddInRange (addReq 48) ∧
    (stand .ready none .draft).order? 301 = some (order .draft (some .a)) := ⟨accepted _ rfl, by decide⟩
theorem witness_OrderSubmitJoinsQueue : Accepts 7 (stand .ready none .draft) ∧
    (stand .ready none .draft).order? 301 = some (order .draft (some .a)) := ⟨accepted _ rfl, by decide⟩
theorem witness_HoldAndRelease : Accepts 7 announced ∧ announced.order? 301 = some (order .active (some .a)) ∧
    ready.order? 301 = some (order .waiting (some .a)) ∧ ready.order? 302 = none := ⟨accepted _ rfl, by decide⟩
theorem witness_OrderPrioritySetsClass : Accepts 7 ready ∧ ready.order? 301 = some (order .waiting (some .a)) :=
  ⟨accepted _ rfl, by decide⟩
theorem witness_OrderCancelEndsOrder : Accepts 7 ready ∧ ready.order? 301 = some (order .waiting (some .a)) :=
  ⟨accepted _ rfl, by decide⟩
theorem witness_ReadyStationTakesFirstEligible : (ready.seq .a).mode = .ready ∧ ready.rollAt .a = some roll ∧
    ready.ord.queue = [] ++ order .waiting (some .a) :: [] ∧ (order .waiting (some .a)).eligible .a 1 = true ∧
    (order .waiting (some .b)).eligible .a 1 = false := by decide
/-- A station in HELD that keeps an order, WAITING again. -/
def keeping : State :=
  let s := stand (.held .limit) none .waiting
  { s with seqs := { s.seqs with a := { s.seqs.a with current := some 301 } } }
/-- A station whose order names its item `n` next, with `k` of that item's frames done. -/
def naming (n k : Nat) : State :=
  let s := stand .ready none .active
  let o : Order := { order .active (some .a) with nextItem := n, items := [{ item with framesDone := k }] }
  { s with
    ord := { s.ord with orders := [o] }
    seqs := { s.seqs with a := { s.seqs.a with current := some 301 } } }
theorem witness_dispatch_gives_back : (keeping.seq .a).mode = .held .limit ∧ (keeping.seq .a).current = some 301 ∧
    keeping.order? 301 = some (order .waiting (some .a)) ∧ (ready.seq .a).mode.hold? = none := by decide
/-- An item with an entry left, one with none (four of four), and an order with no further item. -/
theorem witness_announce : ((naming 1 3).seq .a).current = some 301 ∧ (naming 1 3).rollAt .a = some roll ∧
    (naming 1 3).account? 5 = some account ∧ ((naming 1 3).order? 301).bind Order.nextItem? = some { item with framesDone := 3 } ∧
    (plannedFrames (order .active none).bracket 2).length = 4 ∧ item.state = .inProgress ∧
    ((naming 1 4).order? 301).bind Order.nextItem? = some { item with framesDone := 4 } ∧
    ((naming 2 4).order? 301).map Order.nextItem? = some none := by decide
theorem witness_OrderIdsStayDistinct : OrdersDistinct queued ∧ ∃ t, step queued = .next t :=
  ⟨⟨by decide, by decide⟩, _, rfl⟩
theorem witness_StationSetAndInputTake : Accepts 7 ready ∧ [0, 1, 2, 3].map stationOf? = [some .a, some .b, some .d, none] ∧
    settingsInRange { coldSettings with calibration := -120, magnification := 300, filter4 := 48 } :=
  ⟨accepted _ rfl, by decide⟩
theorem witness_PlacementInAnnouncedAlone : Accepts 7 announced ∧ stationOf? 0 = some .a ∧
    (announced.seq .a).mode = .announced := ⟨accepted _ rfl, by decide⟩
theorem witness_EntryNeedsJournalSlot : (announced.seq .a).context = some context ∧ announced.jnl.hasRoom ∧
    ¬ (journal announced 256).jnl.hasRoom ∧ (journal announced 255).jnl.hasRoom := by decide +kernel
theorem witness_ClaimPlacesPlannedRequest : (announced.seq .a).context = some context ∧
    announced.order? 301 = some (order .active (some .a)) ∧ (order .active (some .a)).item? 1 = some item ∧
    context.entries[context.nextIndex - 1]? = some { offset := 0, kind := .centre } ∧
    announced.rollAt .a = some roll ∧ announced.speed? 1 = some 3 := by decide
theorem witness_SettleReturnsReservations : (announced.seq .a).context = some context ∧ (ready.seq .b).context = none ∧
    ((exposing 2).seq .a).context.map ItemContext.request = some .granted ∧ ((exposing 2).seq .a).popWait ≠ .none := by
  decide
theorem witness_SkipAndAbort : Accepts 7 announced ∧ stationOf? 0 = some .a ∧ (announced.seq .a).mode = .announced ∧
    (announced.seq .a).context = some context ∧ (announced.seq .a).current = some 301 ∧
    announced.orderActive 301 = true ∧ (ready.seq .a).current = none := ⟨accepted _ rfl, by decide⟩
theorem witness_NextItemIndexMovesOn : (order .active none).nextItem? = some item ∧
    List.Pairwise (fun a b : Item => a.number ≠ b.number) (order .active none).items ∧
    announced.order? 301 = some (order .active (some .a)) ∧ (order .active (some .a)).item? 1 = some item := by decide
theorem witness_CompletedFrameIsRecordedAndCharged :
    let c := { context with plan := some { plan := plan, fired := 8, confirmed := 7 }, request := .granted
                            slotHeld := true }
    ((exposing 8).seq .a).context = some c ∧ (exposing 8).rollAt .a = some roll ∧
    c.entries[c.nextIndex - 1]? = some { offset := 0, kind := .centre } ∧ roll.next ≤ roll.capacity ∧
    (exposing 8).rol.frames.length < 1024 ∧ (exposing 8).jnl.entries.length < 256 := by decide
/-- The boundary of R94: the last frame of the roll. -/
theorem witness_last_frame : ({ roll with next := 36 } : Roll).next ≤ roll.capacity ∧ ¬ (37 : Nat) ≤ roll.capacity := by decide
theorem witness_SettingsChangeByStationSetAlone :
    (∀ r ∈ broughtBy .cooling ready, ∀ tag p, r ≠ .stationSet tag p) ∧
    isColdReset .cooling = false ∧ ∃ t, exec .cooling ready = .next t :=
  ⟨by simp [broughtBy], rfl, _, rfl⟩
/-- The characters of a good frame bring about its request. -/
theorem witness_broughtBy : broughtBy (.hostBadFrame ((hostFrame 18 7 []).map HostChar.byte)) ready =
    [.genClear 7 (.fields ())] := by decide +kernel
/-- R58's extremes: −228 and 336. -/
theorem witness_EveryPlanStaysInRange :
    requiredExposure { calibration := -120, subject := -48, speed := 6, filter := 0, magnification := 0, offset := -36
                       rounding := .nearestEven } = -228 ∧
    requiredExposure { calibration := 120, subject := 48, speed := -9, filter := 48, magnification := 300, offset := 36
                       rounding := .nearestEven } = 336 := by decide
theorem witness_DeviationFollowsFromRemainder : (planOf .nearestEven 33).overFlag = false ∧
    (planOf .nearestEven 34).overFlag = true ∧ (planOf .nearestEven (-85)).underFlag = false ∧
    (planOf .nearestEven (-86)).underFlag = true ∧ surplus 33 = some 0 := by decide
theorem witness_PlannedListHasOneCentre : (7 : Nat) ∈ [1, 3, 5, 7] ∧ (12 : Nat) ∈ [3, 4, 6, 12] ∧
    (4 : Nat) ∈ [1, 2, 3, 4] := by decide
theorem witness_PlanQueryReportsThePlan : Accepts 7 ready ∧
    planDirectInRange { calibration := -120, subject := 48, speed := -9, filter := 48, magnification := 300, offset := 36
                        rounding := .nearestEven } ∧
    planStationInRange { station := 0, stock := 15, filter := 4, subject := -48, offset := -36 } ∧
    ready.speed? 1 = some 3 := ⟨accepted _ rfl, by decide⟩
theorem witness_GenClearReturnsToOff : Accepts 7 faulted ∧ faulted.gen.mode = .fault ∧ faulted.flt.gen = none :=
  ⟨accepted _ rfl, by decide⟩
theorem witness_FiringEndsInPopOrMisfire : (exposing 8).gen.mode = .firing ∧
    (exposing 8).gen.holder = some { station := .a, given := 8, pending := none } ∧
    (exposing 8).gen.output = .level 2 ∧ (exposing 8).gen.windowTimer ≠ none ∧ ready.gen.mode ≠ .firing ∧
    ((exposing 8).seq .a).context.bind ItemContext.plan = some { plan := plan, fired := 8, confirmed := 7 } ∧
    (exposing 8).rollAt .a = some roll ∧ ((exposing 8).seq .a).context.map ItemContext.retake = some 0 ∧
    ((repeating.seq .a).context.map fun c => (c.retake, c.plan.isSome)) = some (1, true) ∧
    repeating.rollAt .a = some roll := by decide
theorem witness_ArbiterChoosesHighestThenLeastRecent :
    let g := { (gate 0 512).gen with chosen := none, lastGrant := [.d, .b] }
    g.mode = .ready ∧ g.holder = none ∧ g.chosen = none ∧ g.requests ≠ [] ∧ ready.gen.mode ≠ .ready ∧
    .a ∉ g.lastGrant ∧ .d ∈ g.lastGrant ∧ g.lastGrant = [] ++ .d :: [] ++ .b :: [] ∧
    (∀ st, st ∉ ready.gen.lastGrant) ∧ (exposing 1).gen.holder.map Holder.station = some .a ∧
    ready.gen.holder = none := by decide
/-- The station above with the generator in another mode, its grant held and no pop outstanding. -/
def granted (m : GenMode) : State := { exposing 1 with gen := { (exposing 1).gen with mode := m, windowTimer := none } }
theorem witness_GrantTestsHeat : (gate 192 320).gen.chosen = some .a ∧
    (gate 192 320).gen.request? .a = some { station := .a, cls := 1, energy := 320 } ∧
    ((granted .ready).seq .a).context.bind ItemContext.plan = some { plan := plan, fired := 1, confirmed := 0 } ∧
    (granted .ready).gen.holder = some { station := .a, given := 1, pending := none } ∧
    (granted .ready).gen.mode = .ready ∧ (granted .charging).gen.mode = .charging ∧ ready.gen.mode = .off ∧
    (exposing 1).gen.mode = .firing ∧ (granted .ready).gen.chosen = none ∧ (gate 300 320).gen.mode = .ready := by decide
theorem witness_StockSetReplacesOneEntry : Accepts 7 ready ∧ stockSetInRange { code := 15, speed := -9, name := text [65] } ∧
    ¬ (∃ r ∈ ready.rol.rolls, r.stock = 15) ∧ (2 : Nat) ≠ 15 := ⟨accepted _ rfl, by decide⟩
theorem witness_LoadStartsRoll : Accepts 7 ready ∧ stationOf? 1 = some .b ∧ (ready.seq .b).mode = .unloaded ∧
    ready.rol.rolls.length < 8 ∧ ready.rol.lastRoll ≤ 9999 ∧ FilmLawful queued ∧ ∃ t, step queued = .next t :=
  ⟨accepted _ rfl, by decide, by decide, by decide, by decide, ⟨by decide, by decide, by decide, by decide, by decide⟩, _, rfl⟩
theorem witness_RollsFinishedConfirmedOrDeclared : Accepts 7 (interrupted .opened) ∧ stationOf? 0 = some .a ∧
    (interrupted .opened).rollAt .a = some { roll with state := .interrupted .opened } ∧
    ((interrupted .opened).seq .a).mode = .interrupted := ⟨accepted _ rfl, by decide⟩
theorem witness_RollEndIsTaken : announced.rollAt .a = some roll ∧ context.nextIndex ≤ context.entries.length ∧
    (spent.seq .a).context.map (fun c => (c.entries.length, c.nextIndex)) = some (4, 5) ∧ spent.rollAt .a = some roll := by
  decide
/-- The boundary: the fourth entry is an entry left. -/
theorem witness_last_entry : ({ context with nextIndex := 4 } : ItemContext).nextIndex ≤ context.entries.length ∧
    ¬ (5 : Nat) ≤ context.entries.length := by decide
theorem witness_CullAndCloseRoll : Accepts 7 (out .keep) ∧
    (out .keep).roll? 42 = some { roll with state := .out, station := none } := ⟨accepted _ rfl, by decide⟩
theorem witness_DriveEventsActOnTheMove : (moving (idle .ending) .rewind 0).rollAt .a = some roll ∧
    spent.rollAt .a = some roll ∧ (spent.seq .a).mode = .advancing ∧ (spent.drive .a).move = some .advance := by decide
theorem witness_DoorOpenedClearsTheStand : (announced.seq .a).mode ≠ .unloaded ∧ (announced.seq .a).mode ≠ .awaitUnload ∧
    announced.rollAt .a = some roll ∧ roll.state ≠ .full ∧ (announced.seq .a).current = some 301 := by decide
/-- One fire given, none confirmed: the frame is spoiled. -/
theorem witness_door_spoils : ((exposing 1).seq .a).mode ≠ .unloaded ∧ ((exposing 1).seq .a).mode ≠ .awaitUnload ∧
    ((exposing 1).seq .a).context = some { context with
      plan := some { plan := plan, fired := 1, confirmed := 0 }, request := .granted, slotHeld := true } ∧
    context.entries[context.nextIndex - 1]? = some { offset := 0, kind := .centre } ∧
    (exposing 1).gen.holder = some { station := .a, given := 1, pending := none } ∧ (exposing 1).rollAt .a = some roll ∧
    roll.next ≤ roll.capacity ∧ (exposing 1).rol.frames.length < 1024 := by decide
theorem witness_TariffsAndAccountsAreSet : Accepts 7 ready ∧ ready.account? 5 = some account ∧ ready.account? 64 = none ∧
    accountSetInRange { slot := 64, name := text [65], cls := 4, limit := 99999999 } ∧
    tariffSetInRange { cls := 4, centre := 9999, bracket := 0, copy := 0, mount := 9999 } ∧
    (1 : Nat) ∈ [1, 2, 3, 4] ∧ (1 : Nat) ≠ 4 := ⟨accepted _ rfl, by decide⟩
theorem witness_AdjustAndChargeMoveMoney : Accepts 7 ready ∧ adjustInRange { slot := 5, amount := -999999 } ∧
    ready.account? 5 = some account ∧ ready.jnl.hasRoom ∧ 0 ≤ account.adjusted + (-999999) + 140737488355328 ∧
    account.adjusted + (-999999) ≤ 140737488355327 ∧ 670 ≤ account.reserved ∧
    account.charged + 670 ≤ 140737488355327 := ⟨accepted _ rfl, by decide⟩
theorem witness_ReleaseMakesRoomForWriters : Accepts 7 (journal ready 3) ∧ ¬ (journal ready 3).jnl.next - 1 < 3 ∧
    waiting.waitsForSlot .a = true ∧ waiting.waitsForSlot .b = false := ⟨accepted _ rfl, by decide⟩
def clocked (n : Nat) : State := { queued with clk := { minutes := n, timer := some 60000 } }
theorem witness_DayClockCountsMinutes : Accepts 7 ready ∧ ClockLawful (clocked 52595999) ∧
    ∃ t, step (clocked 52595999) = .next t := ⟨accepted _ rfl, ⟨by decide, by decide⟩, _, rfl⟩
theorem witness_JournalStaysOrdered : JournalOrdered (journal queued 3) ∧ JournalBounded (journal queued 3) ∧
    ∃ t, step (journal queued 3) = .next t := ⟨⟨by decide, by decide⟩, by unfold JournalBounded; decide, _, rfl⟩
/-- The boundary: a full journal keeps its bound, and 256 entries with a slot reserved do not. -/
theorem witness_full_journal : JournalBounded (journal queued 256) ∧
    ¬ JournalBounded { journal queued 256 with jnl := { (journal queued 256).jnl with reserved := 1 } } := by
  unfold JournalBounded; decide +kernel
theorem witness_LabelRequestsChangeTheQueue : Accepts 7 kept ∧
    kept.roll? 42 = some { roll with state := .out, station := none } ∧
    kept.frame? 42 11 = some { frame .keep with exposure := some shot } ∧
    kept.orderOf { frame .keep with exposure := some shot } = some (order .exposed (some .a)) ∧
    (∀ j ∈ sending.lbl.jobs, j.isSent = true) ∧
    (labelled .templateWait).lbl.jobs = sending.lbl.jobs ++ job .templateWait none :: [] ∧
    (job .templateWait none).isSent = false ∧ (labelled .queued).lbl.content? 12 = none := ⟨accepted _ rfl, by decide⟩
theorem witness_ComposedLinesFit : (List.replicate 4 [Piece.field .title]).length ≤ 4 ∧ 24 < (List.replicate 25 (65 : Byte)).length ∧
    (List.replicate 24 (65 : Byte)).length ≤ 24 := by decide
theorem witness_TemplateRequestsFollowTheStore : Accepts 7 { ready with lbl := storeLbl } ∧
    templateInRange { template := 255, lines := [[.literal (text [32])]] } ∧ storeLbl.slotOf? 15 = some 5 ∧
    storeLbl.findSlot? = some 6 := ⟨accepted _ rfl, by decide⟩
theorem witness_PrinterSetAndStatus : Accepts 7 held ∧ held.prn.state = .held := ⟨accepted _ rfl, rfl⟩
/-- The link above with template 12 resident: its second job can be sent. -/
def sendable : State :=
  { labelled .queued with lbl := { (labelled .queued).lbl with slots := storeLbl.slots, lru := storeLbl.lru } }
theorem witness_attempt : sendable.lbl.jobs = sending.lbl.jobs ++ job .queued none :: [] ∧
    (∀ k ∈ sending.lbl.jobs, k.isSent = true) ∧ (job .queued none).isSent = false ∧
    sendable.lbl.content? 12 ≠ none ∧ sendable.prn.state = .sending ∧
    sendable.prn.inFlight.length < sendable.prn.window ∧ (labelled .queued).lbl.content? 12 = none ∧
    sendable.frame? 42 11 = some { frame .keep with exposure := some shot } := by decide
theorem witness_PrinterEventsSettleJobs : sending.prn.state = .sending ∧
    sending.prn.inFlight = { roll := 42, frame := 11, seq := 0, slotHeld := true } :: [] ∧ ready.prn.state = .off ∧
    held.prn.state = .held := by decide
/-- Of the receiver: hunting, with a partial frame, and one short of a check character (R170). -/
theorem witness_receiver : sending.prn.receiver = .hunting ∧ checkDue [char 2, char 48] = false ∧
    checkDue [char 2, char 3] = true := by decide
theorem witness_post_mount : kept.frame? 42 11 = some { frame .keep with exposure := some shot } ∧
    kept.order? 301 = some (order .exposed (some .a)) ∧ kept.account? 5 = some account ∧
    account.mounted + (kept.acc.tariffs.get account.cls).mount ≤ 140737488355327 := by decide
theorem witness_settle_jobs : (sending.prn.inFlight.findIdx? fun x => x.seq == 0) = some 0 ∧
    (sending.prn.inFlight.findIdx? fun x => x.seq == 1) = none := by decide
theorem witness_FaultsAreCapturedAndCleared : Accepts 7 captured ∧ [0, 3, 4, 5].map unitOf? =
    [some .stationA, some .gen, some .prn, none] ∧ captured.flt.get .prn ≠ none ∧ captured.flt.get .gen = none :=
  ⟨accepted _ rfl, by decide⟩
theorem witness_recovery : (ready.seq .a).mode ≠ .fault ∧ ((failed .jam true).seq .a).mode = .fault ∧
    ((failed .jam true).seq .a).faultMemory = some { before := .advancing, cause := .jam, unfinished := true } ∧
    ((failed .rewindTimeout false).seq .a).faultMemory =
      some { before := .advancing, cause := .rewindTimeout, unfinished := false } := by decide
theorem witness_FirstFaultIsKept : captured.flt.get .prn = some (bareCapture .badFrame) ∧
    (∀ r ∈ broughtBy .cooling captured, ∀ tag f, r = .faultClear tag (.fields f) → unitOf? f.unit ≠ some .prn) ∧
    isColdReset .cooling = false ∧ ∃ t, exec .cooling captured = .next t := ⟨rfl, by simp [broughtBy], rfl, _, rfl⟩
theorem witness_ResetsKeepOrClear : Accepts 7 announced ∧
    (announced.ord.orders.filter fun o => o.state == .active).length ≤ 3 ∧ announced.lnk.notices.length ≤ 22 :=
  ⟨accepted _ rfl, by decide⟩
end Sys2Proof.Tests
end

section
/-! SUPPORT. The reading requests: each changes nothing, and reports its part of the state (R17, R18, R23, R67 to R71, R89,
R93, R111, R120, R125, R142, R146, R154, R161, R188, R201). -/

namespace Sys2Proof.Machine

/-! ### They change nothing -/

/-- What a request answers without changing the state that it finds. -/
def Reads {α : Type} (owner : α → State → Answer) : Prop := ∀ f s, (owner f s).state = s

theorem reads_atStation {α : Type} {n : α → Nat} {owner : α → Station → State → Answer}
    (h : ∀ f st s, (owner f st s).state = s) : Reads fun f s => atStation (n f) s (owner f) := by
  intro f s
  show (atStation (n f) s (owner f)).state = s
  unfold atStation
  split
  · rfl
  · exact h f _ s

theorem reads_orderRead : Reads answerOrderRead := by
  intro f s
  unfold answerOrderRead
  split <;> rfl

theorem reads_itemRead : Reads answerItemRead := by
  intro f s
  unfold answerItemRead
  split <;> rfl

theorem reads_stationRead : Reads answerStationRead := reads_atStation fun _ _ _ => rfl

theorem reads_planQueryDirect : Reads answerPlanQueryDirect := by
  intro f s
  unfold answerPlanQueryDirect
  split <;> rfl

theorem reads_planQueryStation : Reads answerPlanQueryStation := reads_atStation fun f st s => by
  split
  · rfl
  · split <;> rfl

theorem reads_planQueryItem : Reads answerPlanQueryItem := reads_atStation fun f st s => by
  split
  · rfl
  · split
    · rfl
    · split <;> rfl

theorem reads_genRead : Reads answerGenRead := fun _ _ => rfl

theorem reads_stockRead : Reads answerStockRead := fun _ _ => rfl

theorem reads_frameRead : Reads answerFrameRead := by
  intro f s
  unfold answerFrameRead
  split
  · rfl
  · split <;> rfl

theorem reads_tariffRead : Reads answerTariffRead := fun _ _ => rfl

theorem reads_accountRead : Reads answerAccountRead := by
  intro f s
  unfold answerAccountRead
  split
  · rfl
  · split <;> rfl

theorem reads_journalRead : Reads answerJournalRead := by
  intro f s
  unfold answerJournalRead
  split <;> rfl

theorem reads_clockRead : Reads answerClockRead := by
  intro f s
  simp only [answerClockRead]
  split <;> rfl

theorem reads_labelRead : Reads answerLabelRead := by
  intro f s
  unfold answerLabelRead
  split <;> rfl

theorem reads_templateRead : Reads answerTemplateRead := by
  intro f s
  unfold answerTemplateRead
  split
  · rfl
  · split <;> rfl

theorem reads_faultRead : Reads answerFaultRead := by
  intro f s
  unfold answerFaultRead
  split <;> rfl

theorem reads_ident : Reads answerIdent := fun _ _ => rfl

/-- A reading request that LNK takes is answered, and leaves all but LNK as it was (R197). -/
theorem Reads.answers {α : Type} {kind : RequestKind} {tag : Byte} {owner : α → State → Answer} {s : State}
    (hr : Reads owner) (ha : Accepts tag s) (p : Payload α) :
    ∃ status body, request kind tag p owner s =
      .next (s.asked.placeReply { tag := tag, kind := kind.code, status := status, body := body }).transmit := by
  cases p with
  | fields f => exact ⟨_, _, by rw [request_fields kind tag f owner s ha, hr f s.asked]⟩
  | malformed => exact ⟨_, _, request_malformed kind tag owner s ha⟩

theorem readingRequest_answers {c : Instr} {kind : RequestKind} {tag : Byte} {s : State}
    (hk : readingKind? c = some (kind, tag)) (ha : Accepts tag s) :
    ∃ status body, Answers c s s.asked { tag := tag, kind := kind.code, status := status, body := body } := by
  cases c with
  | orderRead _ p => cases hk; exact reads_orderRead.answers ha p
  | itemRead _ p => cases hk; exact reads_itemRead.answers ha p
  | stationRead _ p => cases hk; exact reads_stationRead.answers ha p
  | planQueryDirect _ p => cases hk; exact reads_planQueryDirect.answers ha p
  | planQueryStation _ p => cases hk; exact reads_planQueryStation.answers ha p
  | planQueryItem _ p => cases hk; exact reads_planQueryItem.answers ha p
  | genRead _ p => cases hk; exact reads_genRead.answers ha p
  | stockRead _ p => cases hk; exact reads_stockRead.answers ha p
  | frameRead _ p => cases hk; exact reads_frameRead.answers ha p
  | tariffRead _ p => cases hk; exact reads_tariffRead.answers ha p
  | accountRead _ p => cases hk; exact reads_accountRead.answers ha p
  | journalRead _ p => cases hk; exact reads_journalRead.answers ha p
  | clockRead _ p => cases hk; exact reads_clockRead.answers ha p
  | labelRead _ p => cases hk; exact reads_labelRead.answers ha p
  | templateRead _ p => cases hk; exact reads_templateRead.answers ha p
  | faultRead _ p => cases hk; exact reads_faultRead.answers ha p
  | ident _ p => cases hk; exact reads_ident.answers ha p
  | _ => cases hk

/-! ### What they report -/

section

variable {s : State}

theorem answerOrderRead_some {id : Nat} {o : Order} (h : s.order? id = some o) :
    answerOrderRead { order := id } s = taken s (.order o (s.ord.position? id)) := by
  simp [answerOrderRead, h]

theorem answerItemRead_some {id n : Nat} {o : Order} {i : Item} (h : s.order? id = some o) (hi : o.item? n = some i) :
    answerItemRead { order := id, item := n } s = taken s (.item i) := by
  simp [answerItemRead, h, hi]

theorem answerPlanQueryItem_some {k id n : Nat} {st : Station} {o : Order} {i : Item} {v : Int}
    (h : s.order? id = some o) (hi : o.item? n = some i) (hk : stationOf? k = some st)
    (hv : s.speed? o.stock = some v) :
    answerPlanQueryItem { station := k, order := id, item := n } s =
      let es := plannedEntries (s.seq st).settings v i 1 (plannedFrames o.bracket i.copies)
      taken s (.plannedItem es ((es.filter fun e => !e.exposed).map fun e => e.plan.energy).sum) := by
  simp [answerPlanQueryItem, atStation, h, hi, hk, hv]

theorem answerStationRead_some {n : Nat} {st : Station} (h : stationOf? n = some st) :
    answerStationRead { station := n } s = taken s (.station (s.seq st).settings (s.seq st).mode (s.seq st).current
      (s.seq st).footPending (s.seq st).context ((s.seq st).faultMemory.map FaultMemory.before)) := by
  simp [answerStationRead, atStation, h]

theorem answerFrameRead_some {f : FrameReadReq} {r : Roll} (hf : frameReadInRange f) (h : s.roll? f.roll = some r) :
    answerFrameRead f s = taken s (.frames r ((s.framesOf f.roll).filter fun x =>
      decide (f.first ≤ x.number ∧ x.number < f.first + f.count))) := by
  simp [answerFrameRead, hf, h]

theorem reservationsOn_eq (s : State) (n : Nat) :
    s.reservationsOn n = (allStations.filterMap fun st => (s.seq st).context).filterMap fun c =>
      if c.account = n then some c.remaining else none := by
  rw [List.filterMap_filterMap]
  refine List.filterMap_congr fun st _ => ?_
  cases (s.seq st).context <;> rfl

theorem answerAccountRead_some {n : Nat} {a : Account} (hn : within 1 64 n) (h : s.account? n = some a) :
    answerAccountRead { slot := n } s = taken s (.account a a.committed a.headroom (s.ordersOn n) (s.reservationsOn n)
      (s.entriesOn n)) := by
  simp [answerAccountRead, hn, h]

theorem answerJournalRead_inRange {n : Nat} (hn : within 1 8 n) :
    answerJournalRead { count := n } s =
      taken s (.journal s.jnl.entries.length s.jnl.reserved s.jnl.free s.jnl.next (s.jnl.entries.take n)) := by
  simp [answerJournalRead, hn]

theorem answerClockRead_eq :
    answerClockRead () s = taken s (if s.clk.minutes = 0 then .clock s.clk.minutes none none
      else .clock s.clk.minutes (some (renderDate s.clk.minutes)) (some (renderTime s.clk.minutes))) := by
  simp only [answerClockRead]
  split <;> rfl

theorem answerLabelRead_inRange {f : LabelReadReq} (hf : within 1 96 f.first) (hc : within 1 8 f.count) :
    answerLabelRead f s = taken s (.labels s.lbl.jobs.length (s.lbl.jobs.filter LabelJob.isSent).length
      s.lbl.headReport ((s.lbl.jobs.drop (f.first - 1)).take f.count)) := by
  simp [answerLabelRead, hf, hc]

/-- With every job at the printer there is no waiting head (R149). -/
theorem headReport_none {l : Lbl} (h : ∀ j ∈ l.jobs, j.isSent = true) : l.headReport = none := by
  have hn : l.head? = none := List.find?_eq_none.mpr fun j hj => by simp [h j hj]
  unfold Lbl.headReport
  rw [hn]
  split
  · contradiction
  · rfl

/-- The waiting head is the first job that is not at the printer (R149, R154). -/
theorem headReport_some {l : Lbl} {before after : List LabelJob} {j : LabelJob} (e : l.jobs = before ++ j :: after)
    (hb : ∀ k ∈ before, k.isSent = true) (hj : j.isSent = false) :
    l.headReport = some { position := before.length + 1, waiting := j.state == .templateWait } := by
  have hi : l.jobs.findIdx? (fun j => !j.isSent) = some before.length := by
    have hnone : before.findIdx? (fun j => !j.isSent) = none := by simpa using hb
    simp [e, List.findIdx?_append, hnone, List.findIdx?_cons, hj]
  have hf : l.head? = some j := by
    have hnone : before.find? (fun j => !j.isSent) = none := by simpa using hb
    simp [Lbl.head?, e, List.find?_append, hnone, hj]
  simp [Lbl.headReport, hi, hf]

theorem answerTemplateRead_zero : answerTemplateRead { template := 0 } s =
    taken s (.templates s.lbl.report false false none) := rfl

theorem answerTemplateRead_inRange {n : Nat} (h1 : 1 ≤ n) (h2 : n ≤ 255) :
    answerTemplateRead { template := n } s =
      taken s (.templates s.lbl.report true (s.lbl.content? n).isSome (s.lbl.content? n)) := by
  simp [answerTemplateRead, Nat.not_lt.mpr h2, Nat.one_le_iff_ne_zero.mp h1]

theorem unitOf_station {n : Nat} {st : Station} (h : stationOf? n = some st) : unitOf? n = some (stationUnit st) := by
  unfold stationOf? at h
  split at h <;> cases h <;> rfl

theorem answerFaultRead_station {n : Nat} {st : Station} (h : stationOf? n = some st) :
    answerFaultRead { unit := n } s = taken s (.stationCapture (s.flt.get (stationUnit st)) (s.seq st).faultMemory
      ((s.seq st).mode == .fault) ((s.drive st).move == some .recovery)) := by
  simp only [answerFaultRead, unitOf_station h]
  cases st <;> rfl

end

/-- Settles O4: the first part for every reading request at once, the reports request by request. -/
theorem readingReportsAndChangesNothing : Obligations.ReadingReportsAndChangesNothing := by
  refine ⟨fun c kind tag s => readingRequest_answers, fun tag s ha => ?_⟩
  refine ⟨fun id o ho => ⟨request_answers ha (answerOrderRead_some ho), fun n i hi => ⟨request_answers ha
    (answerItemRead_some ho hi), fun k st v hk hv => request_answers ha (answerPlanQueryItem_some ho hi hk hv)⟩⟩,
    fun n st hn => request_answers ha (answerStationRead_some hn), request_answers ha rfl, request_answers ha rfl,
    fun n first count r h1 h2 h3 h4 h5 h6 hr => request_answers ha
      (answerFrameRead_some (f := ⟨n, first, count⟩) ⟨⟨h1, h2⟩, ⟨h3, h4⟩, h5, h6⟩ hr), request_answers ha rfl,
    fun n a h1 h2 hacc => ?_, fun n h1 h2 => request_answers ha (answerJournalRead_inRange ⟨h1, h2⟩),
    request_answers ha answerClockRead_eq, fun first count h1 h2 h3 h4 => ⟨fun hall => ?_, fun before j after e hb hj => ?_⟩,
    ⟨request_answers ha answerTemplateRead_zero, fun n h1 h2 => request_answers ha (answerTemplateRead_inRange h1 h2)⟩,
    fun n st hn => request_answers ha (answerFaultRead_station hn), request_answers ha rfl, request_answers ha rfl⟩
  · have h := request_answers (kind := .accountRead) ha (answerAccountRead_some (s := s.asked) ⟨h1, h2⟩ hacc)
    rw [reservationsOn_eq] at h
    exact h
  · have h := request_answers (kind := .labelRead) ha (answerLabelRead_inRange (s := s.asked) (f := ⟨first, count⟩)
      ⟨h1, h2⟩ ⟨h3, h4⟩)
    rw [headReport_none (l := s.asked.lbl) hall] at h
    exact h
  · have h := request_answers (kind := .labelRead) ha (answerLabelRead_inRange (s := s.asked) (f := ⟨first, count⟩)
      ⟨h1, h2⟩ ⟨h3, h4⟩)
    rw [headReport_some (l := s.asked.lbl) e hb hj] at h
    exact h

end Sys2Proof.Machine
end

section
/-! SUPPORT. The order manager: what the order table holds after an update, the queue, the progress of an order, and its
requests (R3 to R16). -/

namespace Sys2Proof.Machine

variable {s : State}

/-! ### The order table after an update -/

theorem find?_updateWhere {α : Type} {p : α → Bool} {f : α → α} (hf : ∀ a, p (f a) = p a) (l : List α) :
    (updateWhere p f l).find? p = (l.find? p).map f := by
  have hp : (p ∘ fun a => if p a then f a else a) = p := by
    funext a
    by_cases h : p a <;> simp [h, hf]
  rw [updateWhere, List.find?_map, hp]
  cases h : l.find? p with
  | none => rfl
  | some a => simp [List.find?_some h]

/-- An update that keeps the ids is seen at the order updated. -/
theorem modOrder_order? {id : Nat} {f : Order → Order} (hf : ∀ o, (f o).id = o.id) (s : State) :
    (s.modOrder id f).order? id = (s.order? id).map f :=
  find?_updateWhere (fun o => by rw [hf]) _

theorem order?_id {id : Nat} {o : Order} (h : s.order? id = some o) : o.id = id := by
  simpa using List.find?_some h

/-- What an update changed in the removed orders alone is gone with them. -/
theorem filter_not_updateWhere {α : Type} {p : α → Bool} {f : α → α} (hf : ∀ a, p (f a) = p a) (l : List α) :
    (updateWhere p f l).filter (fun a => !p a) = l.filter fun a => !p a := by
  induction l with
  | nil => rfl
  | cons a l ih =>
    have ih' : (l.map fun a => if p a then f a else a).filter (fun a => !p a) = l.filter fun a => !p a := ih
    by_cases h : p a <;> simp [updateWhere, h, hf, ih']

/-! ### The queue (R6) -/

theorem queueInsert_perm (o : Order) (l : List Order) : List.Perm (queueInsert o l) (o :: l) := by
  induction l with
  | nil => exact .refl _
  | cons p ps ih =>
    unfold queueInsert
    split
    · exact .refl _
    · exact (ih.cons p).trans (.swap o p ps)

theorem queueSort_perm (l : List Order) : List.Perm (queueSort l) l := by
  induction l with
  | nil => exact .refl _
  | cons o os ih => exact (queueInsert_perm o _).trans (ih.cons o)

theorem Order.before_trans {a b c : Order} (h : a.before b) (k : b.before c) : a.before c := by
  unfold Order.before at *
  omega

theorem Order.before_of_not {a b : Order} (h : ¬ a.before b) : b.before a := by
  unfold Order.before at *
  omega

theorem queueInsert_sorted {o : Order} {l : List Order} (h : l.Pairwise Order.before) :
    (queueInsert o l).Pairwise Order.before := by
  induction l with
  | nil => exact List.pairwise_singleton ..
  | cons p ps ih =>
    obtain ⟨hp, hps⟩ := List.pairwise_cons.mp h
    unfold queueInsert
    split
    · next ho => exact List.pairwise_cons.mpr ⟨List.forall_mem_cons.mpr ⟨ho, fun q hq => Order.before_trans ho (hp q hq)⟩, h⟩
    · next ho =>
      refine List.pairwise_cons.mpr ⟨fun q hq => ?_, ih hps⟩
      rcases List.mem_cons.mp ((queueInsert_perm o ps).mem_iff.mp hq) with rfl | hq
      · exact Order.before_of_not ho
      · exact hp q hq

theorem queueSort_sorted (l : List Order) : (queueSort l).Pairwise Order.before := by
  induction l with
  | nil => exact List.Pairwise.nil
  | cons o os ih => exact queueInsert_sorted ih

/-- Settles O17: the queue is made by insertion into a sorted list. -/
theorem queueIsSorted : Obligations.QueueIsSorted := fun _ => ⟨queueSort_perm _, queueSort_sorted _⟩

/-! ### ORDER_OPEN and ITEM_ADD (R3, R4) -/

/-- Settles O11, condition by condition. -/
theorem orderOpenCreatesDraft : Obligations.OrderOpenCreatesDraft := by
  intro tag f s ha c
  split
  · next h => exact request_answers ha (if_pos h)
  · next h =>
    split
    · next hacc => exact request_answers ha (by simp [answerOrderOpen, h, hacc, refuse])
    · next hacc =>
      have ha1 : ¬ (s.account? f.account).isNone := by simpa using hacc
      split
      · next hord => exact request_answers ha (by
          simp [answerOrderOpen, h, ha1, Option.isSome_iff_ne_none, hord, refuse])
      · next hord =>
        split
        · next hfull => exact request_answers ha (by
            simp [answerOrderOpen, h, ha1, Option.isSome_iff_ne_none, hord, hfull, refuse, Config.maxOrders])
        · next hfull => exact request_answers ha (by
            simp [answerOrderOpen, h, ha1, Option.isSome_iff_ne_none, hord, hfull, taken, Config.maxOrders, newOrder,
              State.modOrd])

theorem clampOffset_eq (z : Int) : clampOffset z = max (-48) (min 48 z) := by
  unfold clampOffset
  split
  · omega
  · split <;> omega

/-- CLAMPED is reported where the offset lies outside its range (R4). -/
theorem decide_clamped (z : Int) : decide (max (-48) (min 48 z) ≠ z) = decide (z < -48 ∨ 48 < z) :=
  decide_eq_decide.mpr (by omega)

/-- Settles O12, condition by condition. -/
theorem itemAddAppendsClamped : Obligations.ItemAddAppendsClamped := by
  intro tag f s ha c
  split
  · next ho => exact request_answers ha (by simp [answerItemAdd, ho, refuse])
  · next o ho =>
    split
    · next hs => exact request_answers ha (by simp [answerItemAdd, ho, hs, refuse])
    · next hs =>
      split
      · next hr =>
        exact request_answers ha (by simp only [answerItemAdd, State.asked_order, ho, hs, if_false, if_pos hr, refuse])
      · next hr =>
        split
        · next hfull =>
          have hfull' : Config.maxItemsPerOrder ≤ o.items.length ∨ Config.maxItems ≤ s.asked.ord.itemsUsed := hfull
          exact request_answers ha (by
            simp only [answerItemAdd, State.asked_order, ho, hs, if_false, hr, if_pos hfull', refuse])
        · next hfull =>
          have hfull' : ¬ (Config.maxItemsPerOrder ≤ o.items.length ∨ Config.maxItems ≤ s.asked.ord.itemsUsed) := hfull
          exact request_answers ha (by
            simp only [answerItemAdd, State.asked_order, ho, hs, if_false, hr, if_neg hfull', taken, newItem,
              clampOffset_eq, decide_clamped])

/-! ### ORDER_SUBMIT (R5) -/

/-- Settles O13: the refusals in their order, else the submission as its rule lists it. -/
theorem orderSubmitJoinsQueue : Obligations.OrderSubmitJoinsQueue := by
  intro tag f s ha c
  split
  · next ho => exact request_answers ha (by simp [answerOrderSubmit, ho, refuse])
  · next o ho =>
    split
    · next hs => exact request_answers ha (by simp [answerOrderSubmit, ho, hs, refuse])
    · next hs =>
      split
      · next he => exact request_answers ha (by simp [answerOrderSubmit, ho, hs, he, refuse])
      · next he =>
        exact request_answers ha (by simp only [answerOrderSubmit, State.asked_order, ho, hs, he, if_false]; rfl)

/-! ### HOLD, RELEASE and ORDER_PRIORITY (R10, R12 to R14) -/

theorem orderActive_iff {id : Nat} {o : Order} (h : s.order? id = some o) :
    s.orderActive id = true ↔ o.state = .active := by
  simp [State.orderActive, h]

theorem orderActive_none {id : Nat} (h : s.order? id = none) : s.orderActive id = false := by
  simp [State.orderActive, h]

theorem holdIfActive_active {id : Nat} {o : Order} (h : s.order? id = some o) (ho : o.state = .active)
    (reason : HoldReason) : s.holdIfActive id reason = s.holdOrder id reason :=
  if_pos ((orderActive_iff h).mpr ho)

theorem holdIfActive_other {id : Nat} {o : Order} (h : s.order? id = some o) (ho : o.state ≠ .active)
    (reason : HoldReason) : s.holdIfActive id reason = s :=
  if_neg fun ht => ho ((orderActive_iff h).mp ht)

theorem holdIfActive_none {id : Nat} (h : s.order? id = none) (reason : HoldReason) : s.holdIfActive id reason = s :=
  if_neg (by simp [orderActive_none h])

/-- Settles O14, by the state of the order. -/
theorem holdAndRelease : Obligations.HoldAndRelease := by
  refine ⟨?_, fun id reason s => ⟨fun o ho hs => holdIfActive_active ho hs reason,
    fun o ho hs => holdIfActive_other ho hs reason, fun ho => holdIfActive_none ho reason⟩⟩
  intro tag f s ha h r
  split
  · next ho => exact ⟨request_answers ha (by simp [answerHold, ho, refuse]),
      request_answers ha (by simp [answerRelease, ho, refuse])⟩
  · next o ho =>
    have hrelease (hs : o.state.isHeld = false) : Refuses r s tag .release .state .nothing :=
      request_answers ha (by simp [answerRelease, ho, hs, refuse])
    dsimp only
    split
    case h_1 hs | h_2 hs | h_3 hs =>
      exact ⟨request_answers ha (by simp [answerHold, ho, hs, refuse]), hrelease (by rw [hs]; rfl)⟩
    case h_4 hs =>
      exact ⟨request_answers ha (by simp [answerHold, ho, hs, taken, State.holdOrder]), hrelease (by rw [hs]; rfl)⟩
    case h_5 reason hs =>
      exact ⟨request_answers ha (by simp [answerHold, ho, hs, taken, State.holdOrder]),
        request_answers ha (by simp [answerRelease, ho, hs, OrderState.isHeld, taken])⟩
    case h_6 hs =>
      exact ⟨fun st hb => request_answers ha (by simp [answerHold, ho, hs, hb, taken, State.holdOrder]),
        hrelease (by rw [hs]; rfl)⟩

/-- Settles O15, condition by condition. -/
theorem orderPrioritySetsClass : Obligations.OrderPrioritySetsClass := by
  intro tag f s ha c
  split
  · next hc => exact request_answers ha (if_pos hc)
  · next hc =>
    split
    · next ho => exact request_answers ha (by simp [answerOrderPriority, hc, ho, refuse])
    · next o ho =>
      have he : o.ended = true ↔ (o.state = .exposed ∨ o.state = .cancelled) := by simp [Order.ended]
      split
      · next h => exact request_answers ha (by simp [answerOrderPriority, hc, ho, he.mpr h, refuse])
      · next h =>
        have hn : ¬ o.ended = true := fun hx => h (he.mp hx)
        exact request_answers ha (by simp [answerOrderPriority, hc, ho, hn, taken])

/-! ### The end of an order and of an item (R9, R15, R16) -/

/-- An order that has just come to its end is freed where no frame record names it, and else stays with its new state
(R16). -/
theorem freeOrder_ended {id : Nat} {f : Order → Order} {o : Order} (hf : ∀ o, (f o).id = o.id)
    (he : ∀ o, (f o).ended = true) (h : s.order? id = some o) :
    (s.modOrder id f).freeOrder id =
      { s with ord := { s.ord with orders := if s.named id then updateWhere (fun o => o.id == id) f s.ord.orders
                                             else s.ord.orders.filter fun o => !(o.id == id) } } := by
  have hfrees : (s.modOrder id f).frees id = !s.named id := by
    simp [State.frees, modOrder_order? hf, h, he, State.named]
  have hfilter := filter_not_updateWhere (p := fun o : Order => o.id == id) (f := f) (fun o => by rw [hf]) s.ord.orders
  unfold State.freeOrder
  rw [hfrees]
  by_cases hn : s.named id
  · simp [hn, State.modOrder, State.modOrd]
  · simp [hn, State.modOrder, State.modOrd, hfilter]

/-- Settles O16, by the state of the order. -/
theorem orderCancelEndsOrder : Obligations.OrderCancelEndsOrder := by
  refine ⟨?_, fun id st s => rfl⟩
  intro tag f s ha c
  split
  · next ho => exact request_answers ha (by simp [answerOrderCancel, ho, refuse])
  · next o ho =>
    have hfree := freeOrder_ended (s := s.asked) (id := f.order) (o := o)
      (f := fun o => { o with state := .cancelled, items := cancelledItems o.items }) (fun _ => rfl)
      (fun _ => rfl) ho
    split
    case h_4 hs | h_5 hs | h_6 hs =>
      exact request_answers ha (by simp only [answerOrderCancel, State.asked_order, ho, hs, hfree]; rfl)
    all_goals
      next hs => exact request_answers ha (by simp [answerOrderCancel, ho, hs, refuse])

section

variable {o : Order}

theorem modItem_items_length (n : Nat) (f : Item → Item) (o : Order) : (o.modItem n f).items.length = o.items.length :=
  length_updateWhere ..

/-- Behind the item ended: the first later item that is outstanding, or one past the last position (R9). -/
theorem indexAfter_gt (o : Order) (h : o.nextItem ≤ o.items.length) :
    o.nextItem < o.indexAfter ∧ o.indexAfter ≤ o.items.length + 1 := by
  unfold Order.indexAfter
  split
  · next k hk =>
    have := (List.findIdx?_eq_some_iff_findIdx_eq.mp hk).1
    simp only [List.length_drop] at this
    omega
  · omega

theorem indexAfter_between (o : Order) {k : Nat} {j : Item} (h1 : o.nextItem < k) (h2 : k < o.indexAfter)
    (hj : o.items[k - 1]? = some j) : j.state.outstanding = false := by
  have hdrop : (o.items.drop o.nextItem)[k - 1 - o.nextItem]? = some j := by
    rw [List.getElem?_drop, ← hj]
    congr 1
    omega
  unfold Order.indexAfter at h2
  split at h2
  · next m hm =>
    obtain ⟨_, _, hlt⟩ := List.findIdx?_eq_some_iff_getElem.mp hm
    have := hlt (k - 1 - o.nextItem) (by omega)
    obtain ⟨hl, rfl⟩ := List.getElem?_eq_some_iff.mp hdrop
    simpa using this
  · next hm => simpa using (List.findIdx?_eq_none_iff.mp hm) j (List.mem_of_getElem? hdrop)

theorem indexAfter_outstanding (o : Order) {j : Item}
    (hj : o.items[o.indexAfter - 1]? = some j) : j.state.outstanding = true := by
  unfold Order.indexAfter at hj
  split at hj
  · next m hm =>
    obtain ⟨hl, hp, _⟩ := List.findIdx?_eq_some_iff_getElem.mp hm
    rw [List.getElem_drop] at hp
    have hj' : o.items[o.nextItem + m]? = some j := hj
    obtain ⟨_, rfl⟩ := List.getElem?_eq_some_iff.mp hj'
    exact hp
  · simp at hj

theorem outstanding_iff (x : ItemState) : x.outstanding = true ↔ x = .pending ∨ x = .inProgress := by
  cases x <;> simp [ItemState.outstanding]

theorem not_outstanding_iff (x : ItemState) : x.outstanding = false ↔ x = .done ∨ x = .skipped := by
  cases x <;> simp [ItemState.outstanding]

/-- The next item stands at a position of the list. -/
theorem nextItem?_some {i : Item} (h : o.nextItem? = some i) :
    1 ≤ o.nextItem ∧ o.nextItem ≤ o.items.length ∧ o.items[o.nextItem - 1]? = some i := by
  unfold Order.nextItem? at h
  split at h
  · cases h
  · have := (List.getElem?_eq_some_iff.mp h).1
    exact ⟨by omega, by omega, h⟩

theorem Order.endItem_id (n : Nat) (e : ItemState) (o : Order) : (o.endItem n e).id = o.id := rfl

/-- Ending an item keeps the numbers, marks the items of its number, and leaves the others as they were (R9). -/
theorem endItem_items (n : Nat) (e : ItemState) (o : Order) :
    (o.endItem n e).items.map Item.number = o.items.map Item.number ∧
    (∀ j ∈ (o.endItem n e).items, j.number = n → j.state = e) ∧
    ∀ j ∈ o.items, j.number ≠ n → j ∈ (o.endItem n e).items := by
  refine ⟨map_updateWhere _ fun _ => rfl, fun j hj hn => ?_, fun j hj hn => mem_updateWhere.mpr ⟨j, hj, ?_⟩⟩
  · obtain ⟨a, _, rfl⟩ := mem_updateWhere.mp hj
    by_cases ha : a.number = n
    · simp [ha]
    · simp [ha] at hn
  · simp [hn]

/-- Ending an item moves the next item index on to the next outstanding item (R9). -/
theorem endItem_nextItem {o : Order} (h : o.nextItem ≤ o.items.length) (n : Nat) (e : ItemState) :
    o.nextItem < (o.endItem n e).nextItem ∧ (o.endItem n e).nextItem ≤ o.items.length + 1 ∧
    (∀ k j, o.nextItem < k → k < (o.endItem n e).nextItem → (o.endItem n e).items[k - 1]? = some j →
      j.state.outstanding = false) ∧
    ∀ j, (o.endItem n e).items[(o.endItem n e).nextItem - 1]? = some j → j.state.outstanding = true := by
  let m := o.modItem n fun i => { i with state := e }
  have hl : m.items.length = o.items.length := modItem_items_length ..
  have hm : m.nextItem ≤ m.items.length := by rw [hl]; exact h
  obtain ⟨h1, h2⟩ := indexAfter_gt m hm
  exact ⟨h1, hl ▸ h2, fun k j => indexAfter_between m, fun _ => indexAfter_outstanding m⟩

end

/-- The item ended, as ORD reports it: its frames done stand as they were (R9). -/
theorem item?_endItem {n : Nat} {e : ItemState} {o : Order} {i : Item} (h : o.item? n = some i) :
    (o.endItem n e).item? n = some { i with state := e } := by
  have := find?_updateWhere (p := fun i : Item => i.number == n) (f := fun i => { i with state := e })
    (fun _ => rfl) o.items
  simp only [Order.item?] at h
  simpa [Order.item?, Order.endItem, Order.modItem, h] using this

theorem endItem_station {st : Station} {o : Order} {i : Item} {n : Nat} {e : ItemState}
    (ho : s.order? o.id = some o) (hi : o.item? n = some i) :
    s.endItem st o.id n e = (s.modOrder o.id (Order.endItem n e)).raise (.itemDone st o.id n e i.framesDone) := by
  have h : ((s.modOrder o.id (Order.endItem n e)).order? o.id).bind (Order.item? · n) = some { i with state := e } := by
    rw [modOrder_order? (Order.endItem_id n e), ho]
    exact item?_endItem hi
  simp only [State.endItem, h]

/-- Settles O26: the index by what `findIdx?` finds behind the item ended, the notices by the rules of the order table. -/
theorem nextItemIndexMovesOn : Obligations.NextItemIndexMovesOn := by
  refine ⟨?_, fun st s o i e ho hi => endItem_station ho hi, ?_⟩
  · intro o i e hi _ _
    obtain ⟨_, hle, _⟩ := nextItem?_some hi
    obtain ⟨hnum, hended, hkept⟩ := endItem_items i.number e o
    obtain ⟨hgt, hbound, hbetween, hnext⟩ := endItem_nextItem hle i.number e
    exact ⟨hnum, hended, hkept, hgt, hbound, fun k j h1 h2 hj => (not_outstanding_iff _).mp (hbetween k j h1 h2 hj),
      fun j hj => (outstanding_iff _).mp (hnext j hj)⟩
  · intro id s o ho
    have hfree := freeOrder_ended (s := s.raise (.orderDone id)) (id := id) (o := o)
      (f := fun o => { o with state := .exposed }) (fun _ => rfl) (fun _ => rfl) ho
    have hnamed : (s.raise (.orderDone id)).named id = s.named id := rfl
    have hfilter := filter_not_updateWhere (p := fun o : Order => o.id == id)
      (f := fun o => { o with state := .exposed }) (fun _ => rfl) s.ord.orders
    rw [hnamed] at hfree
    refine Eq.trans (show s.exposeOrder id = _ from hfree) ?_
    by_cases hn : s.named id
    · simp only [hn, if_true]
      rfl
    · simp only [hn, if_false, Bool.false_eq_true, State.raise_ord, State.modOrder, State.modOrd_ord, hfilter]
      rfl

end Sys2Proof.Machine
end

section
/-! SUPPORT. A station and its order: dispatch, the separator, the announce, SKIP_ITEM, ABORT and leaving (R7, R8, R22, R27 to
R30, R42 to R45). -/

namespace Sys2Proof.Machine

variable {s : State}

/-! ### Leaving an order, SKIP_ITEM and ABORT (R42 to R45) -/

theorem abortable_eq {st : Station} {id : Nat} (hc : (s.seq st).current = some id)
    (hm : (s.seq st).mode ∈ [.separating, .announced, .exposing, .advancing, .held .journalFull]) :
    s.abortable st = s.orderActive id := by
  simp only [List.mem_cons, List.not_mem_nil, or_false] at hm
  rcases hm with hm | hm | hm | hm | hm <;> simp [State.abortable, hm, hc]

theorem abortable_false_of_mode {st : Station}
    (hm : (s.seq st).mode ∈ [.unloaded, .loading, .ready, .ending, .awaitUnload, .interrupted, .fault]) :
    s.abortable st = false := by
  simp only [List.mem_cons, List.not_mem_nil, or_false] at hm
  rcases hm with hm | hm | hm | hm | hm | hm | hm <;> simp [State.abortable, hm]

theorem abortable_false_of_order {st : Station} (h : ∀ id, (s.seq st).current = some id → s.orderActive id = false) :
    s.abortable st = false := by
  unfold State.abortable
  split
  case h_1 | h_2 | h_3 | h_4 | h_5 =>
    split
    · next id hid => exact h id hid
    · rfl
  all_goals rfl

theorem answerAbort_taken {n id : Nat} {st : Station} (hn : stationOf? n = some st)
    (hc : (s.seq st).current = some id) (ha : s.abortable st = true) :
    answerAbort { station := n } s = taken ((s.modOrder id fun o => { o with state := .waiting }).leave st).dispatch := by
  simp [answerAbort, atStation, hn, hc, ha]

theorem answerAbort_refused {n : Nat} {st : Station} (hn : stationOf? n = some st) (ha : s.abortable st = false) :
    answerAbort { station := n } s = refuse s .state := by
  simp [answerAbort, atStation, hn, ha]

theorem answerSkipItem_announced {n : Nat} {st : Station} {c : ItemContext} (hn : stationOf? n = some st)
    (hm : (s.seq st).mode = .announced) (hc : (s.seq st).context = some c) :
    answerSkipItem { station := n } s =
      let u := (s.endItem st c.order c.item .skipped).settle st
      taken (if u.itemsLeft c.order then u.announce State.dispatch st else (u.orderDone st c.order).becomeReady st) := by
  simp only [answerSkipItem, atStation, hn, hm, hc]
  split <;> rfl

theorem answerSkipItem_refused {n : Nat} {st : Station} (hn : stationOf? n = some st)
    (hm : (s.seq st).mode ≠ .announced) : answerSkipItem { station := n } s = refuse s .state := by
  simp only [answerSkipItem, atStation, hn]
  split
  · next h _ => exact absurd h hm
  · next h _ => exact absurd h hm
  · rfl

/-- A station in EXPOSING leaves its order by what became of the pops it asked for (R43, R44). -/
theorem leave_exposing {st : Station} (hm : (s.seq st).mode = .exposing) :
    s.leave st = match (s.seq st).context.bind ItemContext.plan with
      | none => (s.leaveOrder st).becomeReady st
      | some p =>
        if p.fired = 0 then (s.leaveOrder st).becomeReady st
        else if (s.seq st).popWait = .none then ((s.endGrant st).clearCurrent st).spoilAndLeave st
        else s.modSeq st fun q => { q with popWait := .spoil, current := none } := by
  cases hp : (s.seq st).context.bind ItemContext.plan with
  | none => simp [State.leave, hm, hp]
  | some p =>
    by_cases h0 : p.fired = 0
    · simp [State.leave, hm, hp, h0]
    · simp [State.leave, hm, hp, h0, Nat.one_le_iff_ne_zero]

/-- Settles O25: the requests by the station's state, and the leaving by it. -/
theorem skipAndAbort : Obligations.SkipAndAbort := by
  refine ⟨?_, ?_, fun _ _ => rfl⟩
  · intro tag n st s ha hn k a
    have refused (h : s.abortable st = false) : Refuses a s tag .abort .state .nothing :=
      request_answers ha (answerAbort_refused hn h)
    refine ⟨fun c hm hc => request_answers ha (answerSkipItem_announced hn hm hc),
      fun hm => request_answers ha (answerSkipItem_refused hn hm),
      fun id hc hact hm => request_answers ha (answerAbort_taken hn hc ((abortable_eq hc hm).trans hact)),
      fun hm => refused (abortable_false_of_mode hm),
      fun hc => refused (abortable_false_of_order fun id hid => by simp [hc] at hid),
      fun id hc hact => refused (abortable_false_of_order fun i hi => by rw [hc] at hi; cases hi; exact hact)⟩
  · intro st s left ready
    split
    case h_6 hm => exact leave_exposing hm
    case h_1 hm | h_2 hm | h_3 hm | h_4 hm | h_5 hm =>
      unfold State.leave
      rw [hm]
      rfl
    all_goals
      next hm =>
      unfold State.leave
      rw [hm]

/-! ### The state after reset (R203) -/

/-- Settles O60: the state after reset is written out, so each part is read off it. -/
theorem resetStateIsLawful : Obligations.ResetStateIsLawful := by
  refine ⟨⟨by decide, by decide⟩, ⟨.nil, fun e he => by cases he⟩, ⟨by decide, by decide⟩, ⟨.nil, by decide⟩,
    ⟨.nil, by decide, by decide, fun r hr => (by cases hr), by decide⟩, by unfold JournalBounded; decide,
    rfl, rfl, rfl, rfl, rfl, rfl, rfl, rfl, rfl, rfl, rfl, rfl, rfl, rfl, rfl, rfl, fun u => by cases u <;> rfl,
    fun st => by cases st <;> exact ⟨rfl, rfl⟩⟩

/-! ### Dispatch (R7, R8) -/

theorem offer_first {again : State → State} {st : Station} {r : Roll} {before after : List Order} {o : Order}
    (hm : (s.seq st).mode = .ready) (hr : s.rollAt st = some r) (hq : s.ord.queue = before ++ o :: after)
    (hb : ∀ p ∈ before, p.eligible st r.stock = false) (ho : o.eligible st r.stock = true) :
    s.offer again st = s.takeOrder again st o := by
  have hnone : (before.find? fun o => o.eligible st r.stock) = none := by simpa using hb
  have hf : (s.ord.queue.find? fun o => o.eligible st r.stock) = some o := by
    simp [hq, List.find?_append, hnone, ho]
  simp [State.offer, hm, hr, hf]

theorem offer_none {again : State → State} {st : Station} {r : Roll} (hr : s.rollAt st = some r)
    (h : ∀ o ∈ s.ord.queue, o.eligible st r.stock = false) : s.offer again st = s := by
  have hf : (s.ord.queue.find? fun o => o.eligible st r.stock) = none := by simpa using h
  unfold State.offer
  split
  · next hr' => rw [hr] at hr'; cases hr'; rw [hf]
  · rfl

theorem giveBack_waiting {again : State → State} {st : Station} {hold : StationHold} {id : Nat} {o : Order}
    (hm : (s.seq st).mode = .held hold) (hc : (s.seq st).current = some id) (ho : s.order? id = some o)
    (hw : o.state = .waiting) : s.giveBack again st = s.takeOrder again st o := by
  simp [State.giveBack, hm, hc, ho, hw]

theorem giveBack_nothing {again : State → State} {st : Station}
    (h : (s.seq st).mode.hold? = none ∨
      ∀ id o, (s.seq st).current = some id → s.order? id = some o → o.state ≠ .waiting) :
    s.giveBack again st = s := by
  unfold State.giveBack
  split
  · next hold o hm hc =>
    obtain ⟨id, hid, ho⟩ := Option.bind_eq_some_iff.mp hc
    rcases h with h | h
    · simp [hm, Mode.hold?] at h
    · exact if_neg (h id o hid ho)
  · rfl

/-! ### The separator (R27, R28) -/

theorem separatorDue_iff {st : Station} {id : Nat} {r : Roll} (hr : s.rollAt st = some r) :
    s.separatorDue st id = true ↔ (s.seq st).settings.separator = true ∧
      (s.framesOf r.number).getLast?.map Frame.kind ≠ some .separator ∧
      ∃ named, ((s.framesOf r.number).filterMap fun x => x.exposure.map Exposure.order).getLast? = some named ∧
        named ≠ id := by
  change _ ↔ _ ∧ s.lastKind r.number ≠ _ ∧ ∃ named, s.lastNamed r.number = some named ∧ named ≠ id
  simp only [State.separatorDue, hr]
  cases s.lastNamed r.number <;> simp [and_assoc]

theorem hasRoom_iff (t : Rol) (k : Nat) : ¬ t.hasRoom k ↔ 1024 < t.frames.length + t.reserved + k := Nat.not_le

theorem advanceSeparator_eq {st : Station} {o : Order} {i : Item} {r : Roll} (hr : s.rollAt st = some r)
    (hi : o.nextItem? = some i) :
    s.advanceSeparator st o =
      if r.capacity + 1 - r.next < ((plannedFrames o.bracket i.copies).drop i.framesDone).length + 2 then
        (s.modRoll r.number Roll.truncate).takeRollEnd st
      else if 1024 < s.rol.frames.length + s.rol.reserved + 1 then s.keepHeld st o.id .tableFull .tableFull
      else
        ((((s.reserveRecords 1).setMode st .separating).recordFrame r .separator none).startMove st
          .advance).filmEndIfSeen st := by
  simp only [State.advanceSeparator, hr, Order.remainingEntries, hi, Roll.remaining, hasRoom_iff]

/-! ### The announce (R29, R30) -/

section

variable {again : State → State} {st : Station} {o : Order} {i : Item}

theorem announceFrom_done {fuel : Nat} (hc : (s.seq st).current.bind s.order? = some o) (hn : o.nextItem? = none) :
    announceFrom again (fuel + 1) st s = again ((s.orderDone st o.id).setMode st .ready) := by
  simp only [announceFrom, hc, hn]

theorem announceFrom_item {fuel : Nat} (hc : (s.seq st).current.bind s.order? = some o) (hi : o.nextItem? = some i) :
    announceFrom again (fuel + 1) st s =
      if Item.spent o i then announceFrom again fuel st (s.endItem st o.id i.number .done)
      else s.tryAnnounce st o i := by
  simp only [announceFrom, hc, hi]

theorem spent_iff : Item.spent o i = true ↔ i.state = .inProgress ∧
    i.framesDone = (plannedFrames o.bracket i.copies).length := by
  simp [Item.spent]

/-- Ending an item of the current order leaves the station with that order, its next item index moved on (R9). -/
theorem endItem_current (n : Nat) (e : ItemState) (hc : (s.seq st).current.bind s.order? = some o) :
    ((s.endItem st o.id n e).seq st).current.bind (s.endItem st o.id n e).order? = some (o.endItem n e) := by
  obtain ⟨id, hid, ho⟩ := Option.bind_eq_some_iff.mp hc
  have hseq : (s.endItem st o.id n e).seq st = s.seq st := by
    simp only [State.endItem]
    split <;> rfl
  have hord : (s.endItem st o.id n e).order? id = (s.modOrder o.id (Order.endItem n e)).order? id := by
    simp only [State.endItem]
    split <;> rfl
  rw [hseq, hid, Option.bind_some, hord]
  obtain rfl := order?_id ho
  rw [modOrder_order? (Order.endItem_id n e), ho, Option.map_some]

/-- Fuel beyond the items left makes no difference: each turn of the loop ends one of them (log entry 13). -/
theorem announceFrom_fuel (fuel : Nat) (hc : (s.seq st).current.bind s.order? = some o) (hpos : 0 < fuel)
    (hf : o.items.length + 1 < fuel + o.nextItem) :
    announceFrom again (fuel + 1) st s = announceFrom again fuel st s := by
  induction fuel generalizing s o with
  | zero => omega
  | succ fuel ih =>
    cases hi : o.nextItem? with
    | none => rw [announceFrom_done hc hi, announceFrom_done hc hi]
    | some i =>
      obtain ⟨_, hle, _⟩ := nextItem?_some hi
      have hgt := (endItem_nextItem hle i.number .done).1
      have hlen : (o.endItem i.number .done).items.length = o.items.length := modItem_items_length ..
      rw [announceFrom_item hc hi, announceFrom_item hc hi]
      split
      · exact ih (endItem_current i.number .done hc) (by omega) (by omega)
      · rfl

/-- An item with no entry left is passed over DONE (R29, R38). -/
theorem announce_spent (hc : (s.seq st).current.bind s.order? = some o) (hi : o.nextItem? = some i)
    (hs : Item.spent o i = true) (hlen : o.items.length ≤ 24) :
    s.announce again st = (s.endItem st o.id i.number .done).announce again st := by
  obtain ⟨h1, hle, _⟩ := nextItem?_some hi
  have hgt := (endItem_nextItem hle i.number .done).1
  have hlen' : (o.endItem i.number .done).items.length = o.items.length := modItem_items_length ..
  calc s.announce again st
      = announceFrom again 24 st (s.endItem st o.id i.number .done) := (announceFrom_item hc hi).trans (if_pos hs)
    _ = (s.endItem st o.id i.number .done).announce again st :=
      (announceFrom_fuel 24 (endItem_current i.number .done hc) (by omega) (by omega)).symm

/-- The three conditions of an announce, the first that fails deciding (R29, R30, R127). -/
theorem tryAnnounce_eq {r : Roll} {a : Account} (hr : s.rollAt st = some r) (ha : s.account? o.account = some a) :
    s.tryAnnounce st o i =
      if r.capacity + 1 - r.next < ((plannedFrames o.bracket i.copies).drop i.framesDone).length + 1 then
        (s.modRoll r.number Roll.truncate).takeRollEnd st
      else if 1024 < s.rol.frames.length + s.rol.reserved +
          (((plannedFrames o.bracket i.copies).drop i.framesDone).length + 1) then
        s.keepHeld st o.id .tableFull .tableFull
      else if a.withinLimit (a.committed + (newContext o i (s.snapshot a)).remaining) then
        s.makeAnnounce st o i (s.snapshot a)
      else s.keepHeld st o.id .limit .limit := by
  simp only [State.tryAnnounce, hr, ha, Roll.remaining, hasRoom_iff]

end

theorem dispatch_eq (s : State) : s.dispatch = dispatchRun (dispatchTo s.ord.orders.length) s := rfl

/-- Settles O18, clause by clause in the order of the statement. -/
theorem readyStationTakesFirstEligible : Obligations.ReadyStationTakesFirstEligible := by
  refine ⟨fun again st s r hm hr => ⟨fun before after o => offer_first hm hr, offer_none hr⟩,
    fun s => ⟨_, dispatch_eq s⟩,
    fun again st s => ⟨fun hold id o => giveBack_waiting, giveBack_nothing⟩, fun _ _ _ _ => rfl,
    fun st id s r hr => separatorDue_iff hr, fun st o i s r hr hi => advanceSeparator_eq hr hi, ?_, fun _ _ _ => rfl⟩
  intro again st s id o hid ho
  have hc : (s.seq st).current.bind s.order? = some o := by rw [hid, Option.bind_some, ho]
  refine ⟨fun hn => announceFrom_done hc hn, fun i hi => ⟨fun hs hlen => announce_spent hc hi (spent_iff.mpr hs) hlen,
    fun r a hs hr ha => ?_⟩⟩
  have hspent : ¬ Item.spent o i = true := fun h => hs (spent_iff.mp h)
  exact ((announceFrom_item hc hi).trans (if_neg hspent)).trans (tryAnnounce_eq hr ha)

end Sys2Proof.Machine
end

section
/-! SUPPORT. The order table under every command: no two orders share an id, and at most 32 are present (R1, R3). One lemma
per operation, `OrdersDistinct.<operation>`; its arguments are read off the goal, so that a chain of operations is a chain of
these lemmas. -/

namespace Sys2Proof.Machine

variable {s t : State}

/-! ### The order table by itself -/

/-- The law reads the order table alone. -/
theorem OrdersDistinct.of_ord (h : OrdersDistinct s) (e : t.ord = s.ord) : OrdersDistinct t := by
  unfold OrdersDistinct
  rw [e]
  exact h

/-- Orders changed one by one with their ids kept stay distinct. -/
theorem OrdersDistinct.map {g : Order → Order} (hg : ∀ o, (g o).id = o.id) (h : OrdersDistinct s)
    (e : t.ord.orders = s.ord.orders.map g) : OrdersDistinct t := by
  unfold OrdersDistinct
  rw [e]
  exact ⟨List.pairwise_map.mpr (by simpa only [hg] using h.1), by simpa using h.2⟩

/-- Orders removed leave the others distinct. -/
theorem OrdersDistinct.filter {p : Order → Bool} (h : OrdersDistinct s)
    (e : t.ord.orders = s.ord.orders.filter p) : OrdersDistinct t := by
  unfold OrdersDistinct
  rw [e]
  exact ⟨h.1.filter p, (List.length_filter_le ..).trans h.2⟩

/-- An order whose id is new joins a table of fewer than 32 (R3). -/
theorem OrdersDistinct.append {o : Order} (hnew : ∀ a ∈ s.ord.orders, a.id ≠ o.id)
    (hroom : s.ord.orders.length < Config.maxOrders) (h : OrdersDistinct s)
    (e : t.ord.orders = s.ord.orders ++ [o]) : OrdersDistinct t := by
  unfold OrdersDistinct
  rw [e]
  exact ⟨List.pairwise_append.mpr ⟨h.1, List.pairwise_singleton .., by simpa using hnew⟩, by simpa using hroom⟩

/-! ### Orders, items, progress (R9, R10, R16) -/

theorem OrdersDistinct.modOrder {id : Nat} {f : Order → Order} (hf : ∀ o, (f o).id = o.id) (h : OrdersDistinct s) :
    OrdersDistinct (s.modOrder id f) :=
  .map (g := fun o => if o.id == id then f o else o) (fun o => by by_cases hp : o.id == id <;> simp [hp, hf]) h rfl

theorem OrdersDistinct.modItem {id n : Nat} {f : Item → Item} (h : OrdersDistinct s) :
    OrdersDistinct (s.modItem id n f) := .modOrder (fun _ => rfl) h

theorem OrdersDistinct.holdIfActive {id : Nat} {reason : HoldReason} (h : OrdersDistinct s) :
    OrdersDistinct (s.holdIfActive id reason) := by
  unfold State.holdIfActive
  split
  · exact .modOrder (s := s) (fun _ => rfl) h
  · exact h

theorem OrdersDistinct.freeOrder {id : Nat} (h : OrdersDistinct s) : OrdersDistinct (s.freeOrder id) := by
  unfold State.freeOrder
  split
  · exact h.filter rfl
  · exact h

theorem OrdersDistinct.exposeOrder {id : Nat} (h : OrdersDistinct s) : OrdersDistinct (s.exposeOrder id) :=
  .freeOrder (.modOrder (s := s) (fun _ => rfl) h)

theorem OrdersDistinct.endItem {st : Station} {id n : Nat} {e : ItemState} (h : OrdersDistinct s) :
    OrdersDistinct (s.endItem st id n e) := by
  have hm : OrdersDistinct (s.modOrder id (Order.endItem n e)) := .modOrder (fun _ => rfl) h
  simp only [State.endItem]
  split <;> exact hm

theorem OrdersDistinct.orderDone {st : Station} {id : Nat} (h : OrdersDistinct s) :
    OrdersDistinct (s.orderDone st id) := .exposeOrder h

/-! ### A station between frames (R22, R26, R30, R47, R49) -/

theorem OrdersDistinct.setMode {st : Station} {m : Mode} (h : OrdersDistinct s) : OrdersDistinct (s.setMode st m) :=
  h.of_ord (by simp)

theorem OrdersDistinct.settle {st : Station} (h : OrdersDistinct s) : OrdersDistinct (s.settle st) :=
  h.of_ord (by simp)

theorem OrdersDistinct.leaveOrder {st : Station} (h : OrdersDistinct s) : OrdersDistinct (s.leaveOrder st) :=
  h.of_ord (by simp)

theorem OrdersDistinct.enterFault {st : Station} {c : StationFault} {u : Bool} (h : OrdersDistinct s) :
    OrdersDistinct (s.enterFault st c u) := h.of_ord (by simp)

theorem OrdersDistinct.dropSlot {st : Station} (h : OrdersDistinct s) : OrdersDistinct (s.dropSlot st) :=
  h.of_ord (by simp)

theorem OrdersDistinct.recordFilmEnd {st : Station} (h : OrdersDistinct s) : OrdersDistinct (s.recordFilmEnd st) :=
  h.of_ord (by simp)

theorem OrdersDistinct.holdCurrent {st : Station} {reason : HoldReason} (h : OrdersDistinct s) :
    OrdersDistinct (s.holdCurrent st reason) := by
  unfold State.holdCurrent
  split
  · exact .holdIfActive h
  · exact h

theorem OrdersDistinct.endItemFirst {st : Station} (h : OrdersDistinct s) : OrdersDistinct (s.endItemFirst st) := by
  simp only [State.endItemFirst]
  split
  · split
    · exact h
    · split
      · exact .settle <| .endItem h
      · exact .orderDone <| .settle <| .endItem h
  · exact h

theorem OrdersDistinct.takeRollEnd {st : Station} (h : OrdersDistinct s) : OrdersDistinct (s.takeRollEnd st) := by
  simp only [State.takeRollEnd]
  have hl := OrdersDistinct.leaveOrder (st := st) <| .holdCurrent (st := st) (reason := .rollEnd) <|
    .endItemFirst (st := st) h
  generalize (((s.endItemFirst st).holdCurrent st .rollEnd).leaveOrder st) = u at hl ⊢
  have he : OrdersDistinct
      ((u.modSeq st fun q => { q with faultMemory := none, repeatMisfire := false }).setMode st .ending) := .setMode hl
  split
  · split
    · exact he
    · exact .setMode he
  · exact he

theorem OrdersDistinct.filmEnd {st : Station} (h : OrdersDistinct s) : OrdersDistinct (s.filmEnd st) := by
  simp only [State.filmEnd]
  have hr : OrdersDistinct ((s.modDrive st Drive.stop).recordFilmEnd st) := .recordFilmEnd h
  split
  · split
    · exact .takeRollEnd hr
    · exact .takeRollEnd <| .leaveOrder <| .holdCurrent hr
  · split
    · exact .enterFault hr
    · exact .takeRollEnd hr
  · exact .takeRollEnd hr

theorem OrdersDistinct.filmEndIfSeen {st : Station} (h : OrdersDistinct s) : OrdersDistinct (s.filmEndIfSeen st) := by
  unfold State.filmEndIfSeen
  split
  · exact .filmEnd h
  · exact h

theorem OrdersDistinct.keepHeld {st : Station} {id : Nat} {reason : HoldReason} {hold : StationHold}
    (h : OrdersDistinct s) : OrdersDistinct (s.keepHeld st id reason hold) := .setMode <| .holdIfActive h

/-! ### Announcing, taking an order, dispatch (R8, R27 to R30) -/

theorem OrdersDistinct.makeAnnounce {st : Station} {o : Order} {i : Item} {rates : RateSnapshot}
    (h : OrdersDistinct s) : OrdersDistinct (s.makeAnnounce st o i rates) :=
  OrdersDistinct.setMode <|
    OrdersDistinct.modItem (s := (s.reserveRecords (newContext o i rates).records).reserveMoney o.account _) h

theorem OrdersDistinct.tryAnnounce {st : Station} {o : Order} {i : Item} (h : OrdersDistinct s) :
    OrdersDistinct (s.tryAnnounce st o i) := by
  simp only [State.tryAnnounce]
  split
  · exact h
  · split
    · exact .takeRollEnd h
    · split
      · exact .keepHeld h
      · split
        · exact .keepHeld h
        · split
          · exact .makeAnnounce h
          · exact .keepHeld h

theorem OrdersDistinct.advanceSeparator {st : Station} {o : Order} (h : OrdersDistinct s) :
    OrdersDistinct (s.advanceSeparator st o) := by
  simp only [State.advanceSeparator]
  split
  · exact h
  · split
    · exact .takeRollEnd h
    · split
      · exact .keepHeld h
      · exact .filmEndIfSeen (OrdersDistinct.setMode (s := s.reserveRecords 1) h)

/-- A run that keeps the order ids distinct. -/
def KeepsOrders (f : State → State) : Prop := ∀ s : State, OrdersDistinct s → OrdersDistinct (f s)

theorem KeepsOrders.announceFrom {again : State → State} (ha : KeepsOrders again) (fuel : Nat) (st : Station) :
    KeepsOrders (announceFrom again fuel st) := by
  induction fuel with
  | zero => exact fun s h => h
  | succ fuel ih =>
    intro s h
    simp only [Machine.announceFrom]
    split
    · exact h
    · split
      · exact ha _ (.setMode <| .orderDone h)
      · split
        · exact ih _ (.endItem h)
        · exact .tryAnnounce h

theorem KeepsOrders.takeOrder {again : State → State} (ha : KeepsOrders again) (st : Station) (o : Order) :
    KeepsOrders (State.takeOrder again st o) := by
  intro s h
  have hm : OrdersDistinct ((s.modOrder o.id fun o => { o with state := .active, bound := some st }).modSeq st
      fun q => { q with current := some o.id }) := OrdersDistinct.modOrder (s := s) (fun _ => rfl) h
  simp only [State.takeOrder]
  split
  · exact .advanceSeparator hm
  · exact ha.announceFrom _ st _ hm

theorem KeepsOrders.giveBack {again : State → State} (ha : KeepsOrders again) (st : Station) :
    KeepsOrders (State.giveBack again st) := by
  intro s h
  unfold State.giveBack
  split
  · split
    · exact ha.takeOrder st _ s h
    · exact h
  · exact h

theorem KeepsOrders.offer {again : State → State} (ha : KeepsOrders again) (st : Station) :
    KeepsOrders (State.offer again st) := by
  intro s h
  unfold State.offer
  split
  · split
    · exact ha.takeOrder st _ s h
    · exact h
  · exact h

theorem KeepsOrders.dispatchRun {again : State → State} (ha : KeepsOrders again) :
    KeepsOrders (dispatchRun again) := fun s h =>
  ha.offer .d _ <| ha.offer .b _ <| ha.offer .a _ <| ha.giveBack .d _ <| ha.giveBack .b _ <| ha.giveBack .a s h

theorem dispatchTo_keepsOrders (depth : Nat) : KeepsOrders (dispatchTo depth) := by
  induction depth with
  | zero => exact fun s h => h
  | succ depth ih => exact ih.dispatchRun

theorem OrdersDistinct.dispatch (h : OrdersDistinct s) : OrdersDistinct s.dispatch := dispatchTo_keepsOrders _ s h

theorem OrdersDistinct.announce {st : Station} (h : OrdersDistinct s) :
    OrdersDistinct (s.announce State.dispatch st) :=
  KeepsOrders.announceFrom (fun _ => .dispatch) _ st s h

theorem OrdersDistinct.becomeReady {st : Station} (h : OrdersDistinct s) : OrdersDistinct (s.becomeReady st) :=
  .dispatch <| .setMode h

/-! ### The frame sequence at a station (R31 to R49) -/

theorem OrdersDistinct.genFaultUnfired {st : Station} (h : OrdersDistinct s) :
    OrdersDistinct (s.genFaultUnfired st) := by
  have hl : OrdersDistinct ((s.holdCurrent st .generator).leaveOrder st) := .leaveOrder <| .holdCurrent h
  simp only [State.genFaultUnfired]
  split
  · exact .becomeReady hl
  · exact hl

theorem OrdersDistinct.placeRequest {st : Station} {cls energy : Nat} (h : OrdersDistinct s) :
    OrdersDistinct (s.placeRequest st cls energy) := by
  unfold State.placeRequest
  split
  · exact .genFaultUnfired h
  · exact h.of_ord (by simp)

theorem OrdersDistinct.claim {early : Bool} {st : Station} (h : OrdersDistinct s) :
    OrdersDistinct (s.claim early st) := by
  simp only [State.claim]
  split
  · split
    · cases early
      · exact .placeRequest <| .setMode h
      · exact .placeRequest h
    · exact h
  · exact h

theorem OrdersDistinct.beginEntry {st : Station} (h : OrdersDistinct s) : OrdersDistinct (s.beginEntry st) := by
  unfold State.beginEntry
  split
  · exact h
  · split
    · exact .claim h
    · split
      · exact .setMode h
      · exact .keepHeld <| .settle h

theorem OrdersDistinct.earlyRequest {st : Station} (h : OrdersDistinct s) : OrdersDistinct (s.earlyRequest st) := by
  unfold State.earlyRequest
  split
  · exact h
  · split
    · exact .claim h
    · exact h

theorem OrdersDistinct.advance {early : Bool} {st : Station} (h : OrdersDistinct s) :
    OrdersDistinct (s.advance early st) := by
  have hm : OrdersDistinct ((s.startMove st .advance).setMode st .advancing) := .setMode h
  cases early with
  | false => exact .filmEndIfSeen hm
  | true => exact .filmEndIfSeen <| .earlyRequest hm

theorem OrdersDistinct.recordShot {st : Station} {kind : FrameKind} (h : OrdersDistinct s) :
    OrdersDistinct (s.recordShot st kind) := by
  unfold State.recordShot
  split <;> exact h

theorem OrdersDistinct.endGrant {st : Station} (h : OrdersDistinct s) : OrdersDistinct (s.endGrant st) :=
  h.of_ord (by simp [State.endGrant])

theorem OrdersDistinct.postExposure {st : Station} {roll frame : Nat} (h : OrdersDistinct s) :
    OrdersDistinct (s.postExposure st roll frame) := by
  unfold State.postExposure
  split
  · exact h
  · split
    · exact h
    · exact h.of_ord (by simp)

theorem OrdersDistinct.completeEntry {st : Station} (h : OrdersDistinct s) : OrdersDistinct (s.completeEntry st) := by
  simp only [State.completeEntry]
  split
  · exact .advance <| OrdersDistinct.modItem <| .postExposure <| .recordShot <| .endGrant h
  · exact h

theorem OrdersDistinct.spoilAndLeave {st : Station} (h : OrdersDistinct s) : OrdersDistinct (s.spoilAndLeave st) :=
  .advance <| .leaveOrder <| .recordShot h

theorem OrdersDistinct.capture {u : Unit5} {c : Capture} (h : OrdersDistinct s) : OrdersDistinct (s.capture u c) :=
  h.of_ord (by simp)

theorem OrdersDistinct.misfire {st : Station} (h : OrdersDistinct s) : OrdersDistinct (s.misfire st) := by
  simp only [State.misfire]
  split
  · split
    · exact .advance <| OrdersDistinct.dropSlot <| .recordShot <| .endGrant <| .capture h
    · exact .advance <| OrdersDistinct.dropSlot <| .recordShot <| .endGrant h
  · exact h

theorem OrdersDistinct.askPop {st : Station} (h : OrdersDistinct s) : OrdersDistinct (s.askPop st) :=
  h.of_ord (by simp)

theorem OrdersDistinct.confirmPop {st : Station} (h : OrdersDistinct s) : OrdersDistinct (s.confirmPop st) := by
  simp only [State.confirmPop]
  split
  · split
    · exact .askPop h
    · exact .completeEntry h
  · exact h

theorem OrdersDistinct.popReport {st : Station} {act : State → State} (hact : KeepsOrders act)
    (h : OrdersDistinct s) : OrdersDistinct (s.popReport st act) := by
  simp only [State.popReport]
  split
  · exact h
  · exact hact _ h
  · exact .spoilAndLeave <| .endGrant h
  · exact h.of_ord (by simp)

theorem OrdersDistinct.genFaultHolder {st : Station} {given : Nat} (h : OrdersDistinct s) :
    OrdersDistinct (s.genFaultHolder st given) := by
  simp only [State.genFaultHolder]
  split
  · exact h
  · split
    · exact .spoilAndLeave h
    · exact .becomeReady <| .leaveOrder h
  all_goals
    split
    · exact .spoilAndLeave <| .holdCurrent h
    · exact .genFaultUnfired h

theorem OrdersDistinct.genFaultWaiting {listed : List GenRequest} {st : Station} (h : OrdersDistinct s) :
    OrdersDistinct (s.genFaultWaiting listed st) := by
  unfold State.genFaultWaiting
  split
  · exact .genFaultUnfired h
  · exact h

theorem OrdersDistinct.enterGenFault (h : OrdersDistinct s) : OrdersDistinct s.enterGenFault := by
  simp only [State.enterGenFault]
  split
  · exact .genFaultWaiting <| .genFaultWaiting <| .genFaultWaiting <| .genFaultHolder h
  · exact .genFaultWaiting <| .genFaultWaiting <| .genFaultWaiting h

theorem OrdersDistinct.leave {st : Station} (h : OrdersDistinct s) : OrdersDistinct (s.leave st) := by
  unfold State.leave
  split
  case h_6 =>
    split
    · split
      · exact .spoilAndLeave <| OrdersDistinct.endGrant h
      · exact h
    · exact .becomeReady <| .leaveOrder h
  case h_1 | h_2 => exact .becomeReady <| .leaveOrder h
  case h_3 | h_4 | h_5 => exact .leaveOrder h
  all_goals exact h

/-! ### The end of a move, jams, the door (R37 to R49, R98 to R102, R187, R190) -/

theorem OrdersDistinct.rest {st : Station} (h : OrdersDistinct s) : OrdersDistinct (s.rest st) := by
  unfold State.rest
  split
  · exact .takeRollEnd h
  · exact .becomeReady h

theorem OrdersDistinct.itemOver {st : Station} {c : ItemContext} (h : OrdersDistinct s) :
    OrdersDistinct (s.itemOver st c) := by
  have he : OrdersDistinct ((s.endItem st c.order c.item .done).settle st) := .settle <| .endItem h
  simp only [State.itemOver]
  split
  · split
    · exact .takeRollEnd he
    · exact .announce he
  · exact .rest <| .orderDone he

theorem OrdersDistinct.advanceOver {st : Station} (h : OrdersDistinct s) : OrdersDistinct (s.advanceOver st) := by
  unfold State.advanceOver
  split
  · exact .enterFault h
  · split
    · exact .rest h
    · split
      · exact .itemOver h
      · split
        · exact .takeRollEnd h
        · split
          · exact .askPop <| .setMode h
          · exact .setMode h
          · exact .beginEntry h

theorem OrdersDistinct.leaderOn {st : Station} (h : OrdersDistinct s) : OrdersDistinct (s.leaderOn st) := by
  unfold State.leaderOn
  split
  · exact .filmEndIfSeen h
  · split
    · exact .becomeReady h
    · exact h

theorem OrdersDistinct.leaderOver {st : Station} (h : OrdersDistinct s) : OrdersDistinct (s.leaderOver st) :=
  .leaderOn h

theorem OrdersDistinct.recovered {st : Station} (h : OrdersDistinct s) : OrdersDistinct (s.recovered st) :=
  .rest <| OrdersDistinct.leaveOrder <| .holdCurrent h

theorem OrdersDistinct.pullOver {st : Station} (h : OrdersDistinct s) : OrdersDistinct (s.pullOver st) := by
  unfold State.pullOver
  split
  · exact .leaderOver <| .setMode h
  · exact .recovered h

theorem OrdersDistinct.moveOver {st : Station} {m : Move} (h : OrdersDistinct s) : OrdersDistinct (s.moveOver st m) := by
  cases m with
  | leader => exact .leaderOver h
  | recovery => exact .pullOver h
  | rewind => exact h
  | advance =>
    simp only [State.moveOver]
    split
    · split
      · exact .rest h
      · exact .announce h
    · exact .advanceOver h
    · exact .rest h

theorem OrdersDistinct.jam {st : Station} {m : Move} (h : OrdersDistinct s) : OrdersDistinct (s.jam st m) := by
  have hc : OrdersDistinct (s.capture (stationUnit st) (s.jamCapture st (s.jamFault st m))) := .capture h
  simp only [State.jam]
  split
  · exact hc
  · split <;> exact .enterFault hc

theorem OrdersDistinct.recover {st : Station} (h : OrdersDistinct s) : OrdersDistinct (s.recover st) := by
  unfold State.recover
  split
  · split
    · exact .filmEndIfSeen h
    · split
      · exact OrdersDistinct.setMode h
      · exact .recovered h
      · exact h
      · exact h
  · exact h

theorem OrdersDistinct.spoilAtDoor {st : Station} (h : OrdersDistinct s) : OrdersDistinct (s.spoilAtDoor st) := by
  unfold State.spoilAtDoor
  split
  · split
    · exact .recordShot h
    · exact h
  · exact h

theorem OrdersDistinct.rollOut {n : Nat} {st : Station} {f : Roll → Roll} (h : OrdersDistinct s) :
    OrdersDistinct (s.rollOut n st f) := h.of_ord (by simp)

theorem OrdersDistinct.rollOpened {st : Station} (h : OrdersDistinct s) : OrdersDistinct (s.rollOpened st) := by
  unfold State.rollOpened
  split
  · exact h
  · split <;> exact .rollOut h

theorem OrdersDistinct.doorOpen {st : Station} (h : OrdersDistinct s) : OrdersDistinct (s.doorOpen st) := by
  simp only [State.doorOpen]
  split
  · exact h
  · exact .setMode <| .rollOpened h
  · exact .setMode <| .rollOpened <| OrdersDistinct.leaveOrder <| .holdCurrent <| .spoilAtDoor h

end Sys2Proof.Machine
end

section
/-! SUPPORT. What the label path leaves alone while it examines its head and sends (R162, R163, R173, R174), and the order
table under the printer's reports. -/

namespace Sys2Proof.Machine

variable {s t u : State}

/-- From `s` to `t` nothing but LNK, the slot reservations, the label path and the outputs has changed. -/
structure SendingKeeps (s t : State) : Prop where
  ord : t.ord = s.ord
  seqs : t.seqs = s.seqs
  drives : t.drives = s.drives
  gen : t.gen = s.gen
  rol : t.rol = s.rol
  acc : t.acc = s.acc
  entries : t.jnl.entries = s.jnl.entries
  clk : t.clk = s.clk
  flt : t.flt = s.flt
  free : t.free = s.free

/-- Whatever LNK, the slot reservations, the label path and the outputs become, the rest is kept. -/
theorem SendingKeeps.rest (s : State) (l : Lnk) (r n : Nat) (b : Lbl) (p : Prn) (o : List Output) :
    SendingKeeps s { s with lnk := l, jnl := { s.jnl with reserved := r, next := n }, lbl := b, prn := p, outputs := o } :=
  ⟨rfl, rfl, rfl, rfl, rfl, rfl, rfl, rfl, rfl, rfl⟩

theorem SendingKeeps.refl (s : State) : SendingKeeps s s := .rest s ..

theorem SendingKeeps.trans (h : SendingKeeps s t) (k : SendingKeeps t u) : SendingKeeps s u :=
  ⟨k.ord.trans h.ord, k.seqs.trans h.seqs, k.drives.trans h.drives, k.gen.trans h.gen, k.rol.trans h.rol,
    k.acc.trans h.acc, k.entries.trans h.entries, k.clk.trans h.clk, k.flt.trans h.flt, k.free.trans h.free⟩

theorem examineHead_keeps (s : State) : SendingKeeps s s.examineHead := by
  unfold State.examineHead
  split
  · exact .refl s
  · split
    · exact .rest s ..
    · split
      · exact .refl s
      · exact .rest s ..

theorem takeHead_keeps (j : LabelJob) (seq : Nat) (s : State) : SendingKeeps s (s.takeHead j seq) :=
  SendingKeeps.trans (.rest s ..) (examineHead_keeps _)

theorem sendJob_keeps (j : LabelJob) (s : State) : SendingKeeps s (s.sendJob j) := by
  have hr : SendingKeeps s (if j.charge then s.reserveSlot else s) := by
    split
    · exact .rest s ..
    · exact .refl s
  simp only [State.sendJob]
  exact hr.trans <| (takeHead_keeps j s.prn.nextSeq _).trans <| .rest _ ..

theorem sendJobs_keeps (fuel : Nat) (s : State) : SendingKeeps s (sendJobs fuel s) := by
  induction fuel generalizing s with
  | zero => exact .refl s
  | succ fuel ih =>
    unfold sendJobs
    split
    · exact .refl s
    · split
      · exact .rest s ..
      · exact (sendJob_keeps _ s).trans (ih _)

theorem attempt_keeps (s : State) : SendingKeeps s s.attempt := sendJobs_keeps _ s

theorem examine_keeps (s : State) : SendingKeeps s s.examine := by
  simp only [State.examine]
  split
  · split
    · exact (examineHead_keeps s).trans (attempt_keeps _)
    · exact examineHead_keeps s
  · exact examineHead_keeps s

/-! ### The order table under the label path and the printer's reports (R151 to R153, R175 to R181) -/

theorem OrdersDistinct.attempt (h : OrdersDistinct s) : OrdersDistinct s.attempt := h.of_ord (attempt_keeps s).ord

theorem OrdersDistinct.examine (h : OrdersDistinct s) : OrdersDistinct s.examine := h.of_ord (examine_keeps s).ord

theorem OrdersDistinct.examineNew {had : Bool} (h : OrdersDistinct s) : OrdersDistinct (s.examineNew had) := by
  cases had
  · exact .examine h
  · exact h

theorem OrdersDistinct.queueJob {f : Frame} {charge : Bool} (h : OrdersDistinct s) :
    OrdersDistinct (s.queueJob f charge) := by
  have hf : OrdersDistinct (if (s.orderOf f).isSome then s else s.useFree) := by split <;> exact h
  exact hf

theorem State.postMount_ord (roll frame : Nat) (s : State) : (s.postMount roll frame).ord = s.ord := by
  simp only [State.postMount, State.appendEntry_ord]
  split <;> simp

theorem State.framePrinted_ord (roll frame : Nat) (s : State) : (s.framePrinted roll frame).ord = s.ord := by
  simp [State.framePrinted]

theorem State.completeOldest_ord (s : State) : s.completeOldest.ord = s.ord := by
  unfold State.completeOldest
  split
  · rfl
  · extract_lets charged t
    have ht : t.ord = s.ord := State.framePrinted_ord _ _ _
    simp only [State.removeSent, State.modLbl_ord]
    split
    · rw [State.postMount_ord, ht]
    · exact ht

theorem OrdersDistinct.completeOldest (h : OrdersDistinct s) : OrdersDistinct s.completeOldest :=
  h.of_ord s.completeOldest_ord

theorem OrdersDistinct.completeMany (n : Nat) (h : OrdersDistinct s) : OrdersDistinct (completeMany n s) := by
  induction n generalizing s with
  | zero => exact h
  | succ n ih => exact ih (.completeOldest h)

theorem handBackSlots_ord (xs : List InFlight) (s : State) : (handBackSlots xs s).ord = s.ord := by
  induction xs generalizing s with
  | nil => rfl
  | cons x xs ih =>
    simp only [handBackSlots, List.foldl_cons] at ih ⊢
    rw [ih]
    split <;> simp

theorem returnJobs_ord (seqs : List Nat) (s : State) : (s.returnJobs seqs).ord = s.ord := (examineHead_keeps _).ord

theorem OrdersDistinct.returnAll (h : OrdersDistinct s) : OrdersDistinct s.returnAll :=
  h.of_ord ((returnJobs_ord _ _).trans (handBackSlots_ord _ _))

theorem markRisk_ord (xs : List InFlight) (s : State) : (s.markRisk xs).ord = s.ord := by
  induction xs generalizing s with
  | nil => rfl
  | cons x xs ih => exact ih _

theorem OrdersDistinct.toHeld (h : OrdersDistinct s) : OrdersDistinct s.toHeld := h

theorem OrdersDistinct.settleJobs {named : Nat} (h : OrdersDistinct s) : OrdersDistinct (s.settleJobs named) := by
  unfold State.settleJobs
  split
  · exact .returnAll (.completeMany _ h)
  · split
    · exact .completeMany _ h
    · exact (OrdersDistinct.returnAll h).of_ord (markRisk_ord _ _)

theorem OrdersDistinct.printerDone {seq : Nat} (h : OrdersDistinct s) : OrdersDistinct (s.printerDone seq) := by
  simp only [State.printerDone]
  split
  · split
    · split <;> exact .attempt (OrdersDistinct.completeOldest h)
    · exact .toHeld <| .returnAll <| .capture h
  · exact h

theorem OrdersDistinct.printerFault {code : PrinterCode} {named : Nat} (h : OrdersDistinct s) :
    OrdersDistinct (s.printerFault code named) := by
  unfold State.printerFault
  split
  case h_1 => exact h
  case h_2 => exact .toHeld <| .settleJobs <| .capture h
  all_goals exact .toHeld <| .capture h

theorem OrdersDistinct.printerReady (h : OrdersDistinct s) : OrdersDistinct s.printerReady := by
  unfold State.printerReady
  split
  case h_1 | h_2 | h_3 => exact .attempt h
  all_goals exact h

theorem OrdersDistinct.transmit (h : OrdersDistinct s) : OrdersDistinct s.transmit := h

theorem OrdersDistinct.judged {got : PrinterGot} (h : OrdersDistinct s) : OrdersDistinct (s.judged got) := by
  cases got with
  | nothing => exact h
  | bad => exact .transmit <| .capture h
  | good e =>
    cases e with
    | done seq => exact .transmit <| .printerDone h
    | fault seq code named => exact .transmit <| .printerFault h
    | ready seq => exact .transmit <| .printerReady h

theorem OrdersDistinct.hear {cs : List PrinterChar} (h : OrdersDistinct s) : OrdersDistinct (s.hear cs) := by
  have hj (gots : List PrinterGot) : ∀ s : State, OrdersDistinct s → OrdersDistinct (gots.foldl State.judged s) := by
    induction gots with
    | nil => exact fun s h => h
    | cons g gots ih => exact fun s h => ih _ (.judged h)
  unfold State.hear
  split
  · exact h
  · exact hj _ _ h

theorem OrdersDistinct.printerTimedOut (h : OrdersDistinct s) : OrdersDistinct s.printerTimedOut := by
  unfold State.printerTimedOut
  split
  · extract_lets x y
    have hx : OrdersDistinct x := .capture h
    have hr : OrdersDistinct (x.markRisk x.prn.inFlight).returnAll := .returnAll <| hx.of_ord (markRisk_ord _ _)
    exact hr.of_ord (by simp [State.setLink, State.sendAsk, y])
  · exact h

theorem OrdersDistinct.statusWaited (h : OrdersDistinct s) : OrdersDistinct s.statusWaited := by
  unfold State.statusWaited
  split
  case h_1 | h_2 => split <;> exact h
  all_goals exact h

theorem OrdersDistinct.setPrinter {f : PrinterSetReq} (h : OrdersDistinct s) : OrdersDistinct (s.setPrinter f) := by
  simp only [State.setPrinter]
  split
  case h_1 | h_3 => exact .attempt h
  all_goals exact h

end Sys2Proof.Machine
end

section
/-! SUPPORT. The order ids stay distinct under every request and every event, so under every step (R1, R3). -/

namespace Sys2Proof.Machine

variable {s : State}

/-! ### The requests of the order manager (R3 to R18) -/

theorem OrdersDistinct.answerOrderOpen {f : OrderOpenReq} (h : OrdersDistinct s) :
    OrdersDistinct (answerOrderOpen f s).state := by
  unfold Machine.answerOrderOpen
  split
  · exact h
  · split
    · exact h
    · split
      · exact h
      · next hnone =>
        split
        · exact h
        · next hroom =>
          have hnew : ∀ a ∈ s.ord.orders, a.id ≠ (newOrder f).id := by
            simpa [State.order?, newOrder] using hnone
          exact h.append hnew (Nat.lt_of_not_le hroom) rfl

theorem OrdersDistinct.answerItemAdd {f : ItemAddReq} (h : OrdersDistinct s) :
    OrdersDistinct (answerItemAdd f s).state := by
  unfold Machine.answerItemAdd
  split
  · exact h
  · split
    · exact h
    · split
      · exact h
      · split
        · exact h
        · exact .modOrder (s := s) (fun _ => rfl) h

theorem OrdersDistinct.answerOrderSubmit {f : OrderReq} (h : OrdersDistinct s) :
    OrdersDistinct (answerOrderSubmit f s).state := by
  unfold Machine.answerOrderSubmit
  split
  · exact h
  · split
    · exact h
    · split
      · exact h
      · extract_lets u n v
        have hu : OrdersDistinct u := by
          unfold u
          split
          · exact .map (s := s) (g := fun o => { o with arrival := o.arrival.map (renumbered s.ord.orders) })
              (fun _ => rfl) h rfl
          · exact h
        exact .dispatch (OrdersDistinct.modOrder (s := u) (fun _ => rfl) hu)

theorem OrdersDistinct.answerHold {f : OrderReq} (h : OrdersDistinct s) : OrdersDistinct (answerHold f s).state := by
  have hh : OrdersDistinct (s.holdOrder f.order .host) := OrdersDistinct.modOrder (s := s) (fun _ => rfl) h
  unfold Machine.answerHold
  split
  · exact h
  · split
    case h_4 | h_5 => exact hh
    case h_6 =>
      split
      · exact .leave hh
      · exact hh
    all_goals exact h

theorem OrdersDistinct.answerRelease {f : OrderReq} (h : OrdersDistinct s) :
    OrdersDistinct (answerRelease f s).state := by
  unfold Machine.answerRelease
  split
  · exact h
  · split
    · exact .dispatch (.modOrder (fun _ => rfl) h)
    · exact h

theorem OrdersDistinct.answerOrderPriority {f : OrderPriorityReq} (h : OrdersDistinct s) :
    OrdersDistinct (answerOrderPriority f s).state := by
  unfold Machine.answerOrderPriority
  split
  · exact h
  · split
    · exact h
    · split
      · exact h
      · exact .modOrder (s := s) (fun _ => rfl) h

theorem OrdersDistinct.releaseKeeper {id : Nat} {st : Station} (h : OrdersDistinct s) :
    OrdersDistinct (s.releaseKeeper id st) := by
  unfold State.releaseKeeper
  split
  · split
    · exact .becomeReady h
    · exact h
  · exact h

theorem OrdersDistinct.answerOrderCancel {f : OrderReq} (h : OrdersDistinct s) :
    OrdersDistinct (answerOrderCancel f s).state := by
  unfold Machine.answerOrderCancel
  split
  · exact h
  · split
    case h_4 | h_5 | h_6 =>
      exact .releaseKeeper <| .releaseKeeper <| .releaseKeeper <| .freeOrder <| .modOrder (fun _ => rfl) h
    all_goals exact h

/-! ### The requests of the stations (R21 to R43) -/

/-- A request at a station leaves the ids distinct where its owner does. -/
theorem OrdersDistinct.atStation {n : Nat} {owner : Station → State → Answer} (h : OrdersDistinct s)
    (ho : ∀ st, OrdersDistinct (owner st s).state) : OrdersDistinct (atStation n s owner).state := by
  unfold Machine.atStation
  split
  · exact h
  · exact ho _

theorem OrdersDistinct.answerStationSet {f : StationSetReq} (h : OrdersDistinct s) :
    OrdersDistinct (answerStationSet f s).state := .atStation h fun st => by
  split
  · exact h
  · split
    · exact h
    · split <;> exact h

theorem OrdersDistinct.answerPlaced {f : StationReq} (h : OrdersDistinct s) :
    OrdersDistinct (answerPlaced f s).state := .atStation h fun st => by
  split
  · exact .beginEntry h
  · exact h

theorem OrdersDistinct.answerInputTake {f : StationReq} (h : OrdersDistinct s) :
    OrdersDistinct (answerInputTake f s).state := .atStation h fun _ => h

theorem OrdersDistinct.answerSkipItem {f : StationReq} (h : OrdersDistinct s) :
    OrdersDistinct (answerSkipItem f s).state := .atStation h fun st => by
  split
  · next c _ _ =>
    have he : OrdersDistinct ((s.endItem st c.order c.item .skipped).settle st) := .settle <| .endItem h
    dsimp only
    split
    · exact .announce he
    · exact .becomeReady <| .orderDone he
  · exact h
  · exact h

theorem OrdersDistinct.answerAbort {f : StationReq} (h : OrdersDistinct s) :
    OrdersDistinct (answerAbort f s).state := .atStation h fun st => by
  split
  · exact .dispatch <| .leave <| .modOrder (fun _ => rfl) h
  · exact h

/-! ### The requests of the other owners -/

theorem OrdersDistinct.answerGenClear {f : Unit} (h : OrdersDistinct s) : OrdersDistinct (answerGenClear f s).state := by
  unfold Machine.answerGenClear
  split
  · exact h
  · split <;> exact h

theorem OrdersDistinct.answerStockSet {f : StockSetReq} (h : OrdersDistinct s) :
    OrdersDistinct (answerStockSet f s).state := by
  unfold Machine.answerStockSet
  split
  · exact h
  · split <;> exact h

theorem OrdersDistinct.answerStockSetRemove {f : StockReq} (h : OrdersDistinct s) :
    OrdersDistinct (answerStockSetRemove f s).state := by
  unfold Machine.answerStockSetRemove
  split
  · exact h
  · split
    · exact h
    · split <;> exact h

theorem OrdersDistinct.answerLoad {f : LoadReq} (h : OrdersDistinct s) : OrdersDistinct (answerLoad f s).state :=
  .atStation h fun st => by
    split
    · exact h
    · split
      · exact h
      · split
        · exact h
        · split
          · exact h
          · split
            · exact h
            · exact .setMode h

theorem OrdersDistinct.answerUnloadEarly {f : StationReq} (h : OrdersDistinct s) :
    OrdersDistinct (answerUnloadEarly f s).state := .atStation h fun st => by
  split
  · exact h
  · split
    · exact .takeRollEnd h
    · exact h

theorem OrdersDistinct.testLabelled {n : Nat} {before : Bool} (h : OrdersDistinct s) :
    OrdersDistinct (s.testLabelled n before) := h.of_ord (by simp)

theorem OrdersDistinct.answerCull {f : CullReq} (h : OrdersDistinct s) : OrdersDistinct (answerCull f s).state := by
  unfold Machine.answerCull
  split
  · exact h
  · split
    · exact h
    · split
      · exact h
      · split
        · exact h
        · split
          · exact h
          · split
            · exact h
            · exact .testLabelled h

theorem OrdersDistinct.freeOrders (ids : List Nat) (h : OrdersDistinct s) :
    OrdersDistinct (ids.foldl (fun t id => t.freeOrder id) s) := by
  induction ids generalizing s with
  | nil => exact h
  | cons id ids ih => exact ih (.freeOrder h)

theorem OrdersDistinct.answerCloseRoll {f : CloseRollReq} (h : OrdersDistinct s) :
    OrdersDistinct (answerCloseRoll f s).state := by
  unfold Machine.answerCloseRoll
  split
  · exact h
  · split
    · exact h
    · split
      · exact h
      · split
        · exact h
        · exact OrdersDistinct.freeOrders (s := s.freeRoll f.roll) _ h

theorem OrdersDistinct.answerConfirmRoll {f : StationReq} (h : OrdersDistinct s) :
    OrdersDistinct (answerConfirmRoll f s).state := .atStation h fun st => by
  split
  · exact h
  · split
    · exact h
    · split
      case h_1 =>
        split
        · split
          · exact h
          · exact .filmEndIfSeen h
        · exact .takeRollEnd h
      case h_2 => exact .leaderOn <| .setMode h
      case h_3 => exact OrdersDistinct.setMode h
      all_goals exact h

theorem OrdersDistinct.answerDeclareUnloaded {f : StationReq} (h : OrdersDistinct s) :
    OrdersDistinct (answerDeclareUnloaded f s).state := .atStation h fun st => by
  split
  · exact h
  · dsimp only
    split
    · exact .setMode <| .rollOut h
    · exact .setMode h

theorem OrdersDistinct.answerTariffSet {f : TariffSetReq} (h : OrdersDistinct s) :
    OrdersDistinct (answerTariffSet f s).state := by
  unfold Machine.answerTariffSet
  split <;> exact h

theorem OrdersDistinct.answerAccountSet {f : AccountSetReq} (h : OrdersDistinct s) :
    OrdersDistinct (answerAccountSet f s).state := by
  unfold Machine.answerAccountSet
  split
  · exact h
  · split
    · exact h
    · split <;> exact h

theorem OrdersDistinct.answerAccountClear {f : AccountReq} (h : OrdersDistinct s) :
    OrdersDistinct (answerAccountClear f s).state := by
  unfold Machine.answerAccountClear
  split
  · exact h
  · split
    · exact h
    · split
      · exact h
      · split <;> exact h

theorem OrdersDistinct.answerAdjust {f : AdjustReq} (h : OrdersDistinct s) :
    OrdersDistinct (answerAdjust f s).state := by
  unfold Machine.answerAdjust
  split
  · exact h
  · split
    · exact h
    · split
      · exact h
      · split
        · exact h
        · extract_lets t
          have ht : OrdersDistinct t := h.of_ord (by simp [t])
          split <;> exact ht

theorem OrdersDistinct.answerJournalRelease {f : JournalReleaseReq} (h : OrdersDistinct s) :
    OrdersDistinct (answerJournalRelease f s).state := by
  unfold Machine.answerJournalRelease
  split
  · exact h
  · split
    · exact h
    · dsimp only
      split
      · exact h.of_ord (by simp)
      · exact h

theorem OrdersDistinct.answerClockSet {f : ClockSetReq} (h : OrdersDistinct s) :
    OrdersDistinct (answerClockSet f s).state := by
  unfold Machine.answerClockSet
  split <;> exact h

theorem OrdersDistinct.queueJobs (now : List Frame) (h : OrdersDistinct s) :
    OrdersDistinct (now.foldl (fun t x => t.queueJob x true) s) := by
  induction now generalizing s with
  | nil => exact h
  | cons x now ih => exact ih (.queueJob h)

theorem OrdersDistinct.answerLabelRoll {f : RollReq} (h : OrdersDistinct s) :
    OrdersDistinct (answerLabelRoll f s).state := by
  unfold Machine.answerLabelRoll
  split
  · exact h
  · split
    · exact h
    · split
      · exact h
      · exact .examineNew <| .queueJobs _ h

theorem OrdersDistinct.answerLabelFrame {f : LabelFrameReq} (h : OrdersDistinct s) :
    OrdersDistinct (answerLabelFrame f s).state := by
  unfold Machine.answerLabelFrame
  split
  · exact h
  · split
    · exact h
    · split
      · exact h
      · split
        · exact h
        · split
          · exact h
          · exact .examineNew <| .queueJob h

theorem OrdersDistinct.answerLabelCancel {f : RollReq} (h : OrdersDistinct s) :
    OrdersDistinct (answerLabelCancel f s).state := by
  unfold Machine.answerLabelCancel
  split
  · exact h
  · split
    · exact h
    · dsimp only
      split
      · exact .examine h
      · exact h

theorem OrdersDistinct.answerTemplateLoad {f : TemplateLoadReq} (h : OrdersDistinct s) :
    OrdersDistinct (answerTemplateLoad f s).state := by
  unfold Machine.answerTemplateLoad
  split
  · exact h
  · split
    · exact .examine h
    · split
      · exact h
      · exact .examine h

theorem OrdersDistinct.answerTemplateLock {f : TemplateReq} (h : OrdersDistinct s) :
    OrdersDistinct (answerTemplateLock f s).state := by
  unfold Machine.answerTemplateLock
  split
  · exact h
  · split
    · exact h
    · split
      · exact h
      · dsimp only
        split
        · exact .examine h
        · exact h

theorem OrdersDistinct.answerTemplateUnlock {f : TemplateReq} (h : OrdersDistinct s) :
    OrdersDistinct (answerTemplateUnlock f s).state := by
  unfold Machine.answerTemplateUnlock
  split
  · exact h
  · split
    · exact h
    · split <;> exact h

theorem OrdersDistinct.answerTemplateDrop {f : TemplateReq} (h : OrdersDistinct s) :
    OrdersDistinct (answerTemplateDrop f s).state := by
  unfold Machine.answerTemplateDrop
  split
  · exact h
  · split
    · exact h
    · split
      · exact .examine h
      · exact h

theorem OrdersDistinct.answerPrinterSet {f : PrinterSetReq} (h : OrdersDistinct s) :
    OrdersDistinct (answerPrinterSet f s).state := by
  unfold Machine.answerPrinterSet
  split
  · exact h
  · split
    · exact h
    · exact .setPrinter h

theorem OrdersDistinct.answerPrinterStatus {f : PrinterStatusReq} (h : OrdersDistinct s) :
    OrdersDistinct (answerPrinterStatus f s).state := by
  simp only [Machine.answerPrinterStatus, taken_state]
  split <;> exact h

theorem OrdersDistinct.answerFaultClear {f : UnitReq} (h : OrdersDistinct s) :
    OrdersDistinct (answerFaultClear f s).state := by
  unfold Machine.answerFaultClear
  split
  · exact h
  · next u _ =>
    split
    · exact h
    · simp only [taken_state, State.recoverUnit]
      split
      · exact .recover h
      · exact h

/-! ### Resets (R19, R203) -/

theorem labelStart_keeps (s : State) : SendingKeeps s s.labelStart.1 :=
  SendingKeeps.trans (.rest s ..) <| (examine_keeps _).trans (.rest _ ..)

theorem keepReset_ord (lnk : Lnk) (doors : PerStation Door) (ready : Bool) (s : State) :
    (s.keepReset lnk doors ready).ord = { s.ord with orders := s.ord.orders.map Order.afterReset } :=
  (labelStart_keeps { s.keptReset doors ready with lnk := lnk }).ord

theorem OrdersDistinct.keepReset {lnk : Lnk} {doors : PerStation Door} {ready : Bool} (h : OrdersDistinct s) :
    OrdersDistinct (s.keepReset lnk doors ready) :=
  .map (g := Order.afterReset) (fun o => by unfold Order.afterReset; split <;> rfl) h
    (congrArg Ord.orders (keepReset_ord lnk doors ready s))

theorem OrdersDistinct.coldReset {pins : ResetPins} (s : State) : OrdersDistinct (s.coldReset pins) :=
  ⟨List.Pairwise.nil, Nat.zero_le _⟩

theorem OrdersDistinct.resetBy {pins : ResetPins} (h : OrdersDistinct s) : OrdersDistinct (s.resetBy pins) := by
  unfold State.resetBy
  split
  · exact .keepReset h
  · exact .coldReset s

/-! ### Requests as LNK takes them (R197) -/

theorem OrdersDistinct.takePayload {α : Type} {kind : RequestKind} {tag : Byte} {p : Payload α}
    {owner : α → State → Answer} (ho : ∀ f s, OrdersDistinct s → OrdersDistinct (owner f s).state)
    (h : OrdersDistinct s) : OrdersDistinct (takePayload kind tag p owner s) := by
  simp only [Machine.takePayload, takeRequest]
  split
  · exact h
  · split
    · exact h
    · cases p with
      | fields f => exact ho f s.frameTaken h
      | malformed => exact h

/-- A request that only reads leaves the ids distinct. -/
theorem OrdersDistinct.takeReading {α : Type} {kind : RequestKind} {tag : Byte} {p : Payload α}
    {owner : α → State → Answer} (hr : Reads owner) (h : OrdersDistinct s) :
    OrdersDistinct (Machine.takePayload kind tag p owner s) :=
  .takePayload (fun f s hs => (hr f s).symm ▸ hs) h

theorem OrdersDistinct.takeUnknown {kind tag : Byte} (h : OrdersDistinct s) :
    OrdersDistinct (takeRequest kind tag (fun t => refuse t .unknownKind) s) := by
  simp only [takeRequest]
  split
  · exact h
  · split <;> exact h

theorem OrdersDistinct.takeCommand {c : Instr} (h : OrdersDistinct s) : OrdersDistinct (s.takeCommand c) := by
  cases c with
  | orderOpen => exact .takePayload (fun _ _ => .answerOrderOpen) h
  | itemAdd => exact .takePayload (fun _ _ => .answerItemAdd) h
  | orderSubmit => exact .takePayload (fun _ _ => .answerOrderSubmit) h
  | hold => exact .takePayload (fun _ _ => .answerHold) h
  | release => exact .takePayload (fun _ _ => .answerRelease) h
  | orderPriority => exact .takePayload (fun _ _ => .answerOrderPriority) h
  | orderCancel => exact .takePayload (fun _ _ => .answerOrderCancel) h
  | stationSet => exact .takePayload (fun _ _ => .answerStationSet) h
  | placed => exact .takePayload (fun _ _ => .answerPlaced) h
  | inputTake => exact .takePayload (fun _ _ => .answerInputTake) h
  | skipItem => exact .takePayload (fun _ _ => .answerSkipItem) h
  | abort => exact .takePayload (fun _ _ => .answerAbort) h
  | genClear => exact .takePayload (fun _ _ => .answerGenClear) h
  | stockSet => exact .takePayload (fun _ _ => .answerStockSet) h
  | stockSetRemove => exact .takePayload (fun _ _ => .answerStockSetRemove) h
  | load => exact .takePayload (fun _ _ => .answerLoad) h
  | unloadEarly => exact .takePayload (fun _ _ => .answerUnloadEarly) h
  | cull => exact .takePayload (fun _ _ => .answerCull) h
  | closeRoll => exact .takePayload (fun _ _ => .answerCloseRoll) h
  | confirmRoll => exact .takePayload (fun _ _ => .answerConfirmRoll) h
  | declareUnloaded => exact .takePayload (fun _ _ => .answerDeclareUnloaded) h
  | tariffSet => exact .takePayload (fun _ _ => .answerTariffSet) h
  | accountSet => exact .takePayload (fun _ _ => .answerAccountSet) h
  | accountClear => exact .takePayload (fun _ _ => .answerAccountClear) h
  | adjust => exact .takePayload (fun _ _ => .answerAdjust) h
  | journalRelease => exact .takePayload (fun _ _ => .answerJournalRelease) h
  | clockSet => exact .takePayload (fun _ _ => .answerClockSet) h
  | labelRoll => exact .takePayload (fun _ _ => .answerLabelRoll) h
  | labelFrame => exact .takePayload (fun _ _ => .answerLabelFrame) h
  | labelCancel => exact .takePayload (fun _ _ => .answerLabelCancel) h
  | templateLoad => exact .takePayload (fun _ _ => .answerTemplateLoad) h
  | templateLock => exact .takePayload (fun _ _ => .answerTemplateLock) h
  | templateUnlock => exact .takePayload (fun _ _ => .answerTemplateUnlock) h
  | templateDrop => exact .takePayload (fun _ _ => .answerTemplateDrop) h
  | printerSet => exact .takePayload (fun _ _ => .answerPrinterSet) h
  | printerStatus => exact .takePayload (fun _ _ => .answerPrinterStatus) h
  | faultClear => exact .takePayload (fun _ _ => .answerFaultClear) h
  | standReset => exact .takePayload (fun _ _ => .keepReset) h
  | status => exact .takePayload (fun _ _ h => h) h
  | orderRead => exact .takeReading reads_orderRead h
  | itemRead => exact .takeReading reads_itemRead h
  | stationRead => exact .takeReading reads_stationRead h
  | planQueryDirect => exact .takeReading reads_planQueryDirect h
  | planQueryStation => exact .takeReading reads_planQueryStation h
  | planQueryItem => exact .takeReading reads_planQueryItem h
  | genRead => exact .takeReading reads_genRead h
  | stockRead => exact .takeReading reads_stockRead h
  | frameRead => exact .takeReading reads_frameRead h
  | tariffRead => exact .takeReading reads_tariffRead h
  | accountRead => exact .takeReading reads_accountRead h
  | journalRead => exact .takeReading reads_journalRead h
  | clockRead => exact .takeReading reads_clockRead h
  | labelRead => exact .takeReading reads_labelRead h
  | templateRead => exact .takeReading reads_templateRead h
  | faultRead => exact .takeReading reads_faultRead h
  | ident => exact .takeReading reads_ident h
  | unknownKind => exact .takeUnknown h
  | _ => exact h

/-! ### Every command and every step -/

theorem OrdersDistinct.hearHost (cs : List HostChar) (h : OrdersDistinct s) : OrdersDistinct (s.hearHost cs) := by
  induction cs generalizing s with
  | nil => exact h
  | cons c cs ih =>
    refine ih ?_
    unfold State.takeReceived
    split
    · split
      · exact h
      · exact .transmit (OrdersDistinct.takeCommand (s := s.receive _) h)
    · exact h
    · exact h

theorem OrdersDistinct.pulse {st : Station} (h : OrdersDistinct s) : OrdersDistinct (s.pulse st) := by
  simp only [State.pulse]
  split
  · split
    · split
      · exact .moveOver h
      · exact h
    · exact h
  · exact h

theorem OrdersDistinct.advanceTimedOut {st : Station} (h : OrdersDistinct s) :
    OrdersDistinct (s.advanceTimedOut st) := by
  unfold State.advanceTimedOut
  split
  · exact .jam h
  · exact h

theorem OrdersDistinct.endSensed {st : Station} (h : OrdersDistinct s) : OrdersDistinct (s.endSensed st) := by
  unfold State.endSensed
  split
  · exact h
  · exact h
  · exact .filmEnd h

theorem OrdersDistinct.rewound {st : Station} (h : OrdersDistinct s) : OrdersDistinct (s.rewound st) := by
  simp only [State.rewound]
  split
  · split
    · exact .setMode h
    · exact h
  · exact h

theorem OrdersDistinct.rewindTimedOut {st : Station} (h : OrdersDistinct s) :
    OrdersDistinct (s.rewindTimedOut st) := by
  simp only [State.rewindTimedOut]
  split
  · exact .enterFault <| .capture h
  · exact h

theorem OrdersDistinct.footEdge {st : Station} {edge : Edge} (h : OrdersDistinct s) :
    OrdersDistinct (s.footEdge st edge) := by
  simp only [State.footEdge]
  split
  · split
    · exact .beginEntry h
    · exact h
  · exact h

theorem OrdersDistinct.choose (h : OrdersDistinct s) : OrdersDistinct s.choose := h.of_ord (by simp)

theorem OrdersDistinct.readyRises (h : OrdersDistinct s) : OrdersDistinct s.readyRises := by
  simp only [State.readyRises]
  split
  · simp only [State.charged]
    split
    · exact h
    · exact h
    · exact .choose h
  · exact h

theorem OrdersDistinct.readyFalls (h : OrdersDistinct s) : OrdersDistinct s.readyFalls := by
  simp only [State.readyFalls]
  split <;> exact h

theorem OrdersDistinct.afterFiring {act : Station → State → State} (ha : ∀ st, KeepsOrders (act st))
    (h : OrdersDistinct s) : OrdersDistinct (s.afterFiring act) := by
  unfold State.afterFiring
  split
  · exact .popReport (ha _) h
  · exact .choose h

theorem OrdersDistinct.flashReported (h : OrdersDistinct s) : OrdersDistinct s.flashReported := by
  unfold State.flashReported
  split
  · exact .afterFiring (fun _ _ => .confirmPop) h
  · exact h

theorem OrdersDistinct.windowExpired (h : OrdersDistinct s) : OrdersDistinct s.windowExpired := by
  unfold State.windowExpired
  split
  · exact .afterFiring (fun _ _ => .misfire) h
  · exact h

theorem OrdersDistinct.chargeTimedOut (h : OrdersDistinct s) : OrdersDistinct s.chargeTimedOut := by
  unfold State.chargeTimedOut
  split
  · exact .enterGenFault <| .capture h
  · exact h

theorem OrdersDistinct.idleExpired (h : OrdersDistinct s) : OrdersDistinct s.idleExpired := by
  unfold State.idleExpired
  split
  · split <;> exact h
  · exact h

theorem OrdersDistinct.cooled (h : OrdersDistinct s) : OrdersDistinct s.cooled :=
  h.of_ord (by simp [State.cooled])

theorem OrdersDistinct.minutePassed (h : OrdersDistinct s) : OrdersDistinct s.minutePassed := by
  unfold State.minutePassed
  split <;> exact h

theorem OrdersDistinct.gapExpired (h : OrdersDistinct s) : OrdersDistinct s.gapExpired := by
  unfold State.gapExpired
  split <;> exact h

theorem OrdersDistinct.askSlotAgain {st : Station} (h : OrdersDistinct s) : OrdersDistinct (s.askSlotAgain st) := by
  simp only [State.askSlotAgain]
  split
  · split
    · exact .claim h
    · exact h
  · exact h

theorem OrdersDistinct.attemptAgain (h : OrdersDistinct s) : OrdersDistinct s.attemptAgain := by
  unfold State.attemptAgain
  split
  · exact .attempt h
  · exact h

/-- A request as a command is the event of its frame taken by LNK (R197). -/
theorem exec_request {c : Instr} {tag : Byte} (ht : requestTag? c = some tag) (hk : ∀ t k, c ≠ .unknownKind t k)
    (s : State) : exec c s = event (State.takeCommand c) s := by
  cases c
  case unknownKind t k => exact absurd rfl (hk t k)
  all_goals first | rfl | cases ht

/-- An event that keeps the ids distinct leads to a state with distinct ids. -/
theorem OrdersDistinct.of_event {f : State → State} {s t : State} (hf : KeepsOrders f) (h : OrdersDistinct s)
    (e : event f s = .next t) : OrdersDistinct t := by
  cases e
  exact hf s.begun h

theorem execUnknownKind_is_event (tag kind : Byte) (s : State) :
    ∃ f, execUnknownKind tag kind s = event f s ∧ KeepsOrders f := by
  unfold execUnknownKind
  split
  · exact ⟨_, rfl, fun _ => .takeCommand⟩
  · exact ⟨_, rfl, fun _ => .takeUnknown⟩

/-- Every command is an event that keeps the order ids distinct. -/
theorem exec_is_event (c : Instr) (s : State) : ∃ f, exec c s = event f s ∧ KeepsOrders f := by
  cases c with
  | hostBadFrame chars => exact ⟨_, rfl, fun _ => .hearHost chars⟩
  | interByteGap => exact ⟨_, rfl, fun _ => .gapExpired⟩
  | frameSent => exact ⟨_, rfl, fun _ h => h⟩
  | reset => exact ⟨_, rfl, fun _ => .resetBy⟩
  | footSwitchEdge => exact ⟨_, rfl, fun _ => .footEdge⟩
  | doorOpened => exact ⟨_, rfl, fun _ => .doorOpen⟩
  | doorClosed => exact ⟨_, rfl, fun _ h => h⟩
  | sprocketPulse => exact ⟨_, rfl, fun _ => .pulse⟩
  | advanceTimeout => exact ⟨_, rfl, fun _ => .advanceTimedOut⟩
  | endOfFilmSensor => exact ⟨_, rfl, fun _ => .endSensed⟩
  | rewindDone => exact ⟨_, rfl, fun _ => .rewound⟩
  | rewindTimerExpiry => exact ⟨_, rfl, fun _ => .rewindTimedOut⟩
  | readyInputRise => exact ⟨_, rfl, fun _ => .readyRises⟩
  | readyInputFall => exact ⟨_, rfl, fun _ => .readyFalls⟩
  | flashSensorReport => exact ⟨_, rfl, fun _ => .flashReported⟩
  | flashConfirmWindowExpiry => exact ⟨_, rfl, fun _ => .windowExpired⟩
  | chargeTimerExpiry => exact ⟨_, rfl, fun _ => .chargeTimedOut⟩
  | idleDischarge => exact ⟨_, rfl, fun _ => .idleExpired⟩
  | cooling => exact ⟨_, rfl, fun _ => .cooled⟩
  | minuteTimerExpiry => exact ⟨_, rfl, fun _ => .minutePassed⟩
  | printerDone => exact ⟨_, rfl, fun _ => .hear⟩
  | printerFault => exact ⟨_, rfl, fun _ => .hear⟩
  | printerReady => exact ⟨_, rfl, fun _ => .hear⟩
  | badFrame => exact ⟨_, rfl, fun _ => .hear⟩
  | printerTimerExpiry => exact ⟨_, rfl, fun _ => .printerTimedOut⟩
  | statusWaitExpiry => exact ⟨_, rfl, fun _ => .statusWaited⟩
  | stationSlotRequest => exact ⟨_, rfl, fun _ => .askSlotAgain⟩
  | printerSlotRequest => exact ⟨_, rfl, fun _ => .attemptAgain⟩
  | unknownKind tag kind => exact execUnknownKind_is_event tag kind s
  | _ => exact ⟨_, exec_request rfl (by simp) s, fun _ => .takeCommand⟩

theorem OrdersDistinct.exec {c : Instr} {t : State} (h : OrdersDistinct s) (e : exec c s = .next t) :
    OrdersDistinct t := by
  obtain ⟨f, hf, hk⟩ := exec_is_event c s
  exact .of_event hk h (hf.symm.trans e)

/-- Settles O19: the empty queue changes nothing, and every command is an event made of operations that keep the ids. -/
theorem orderIdsStayDistinct : Obligations.OrderIdsStayDistinct := by
  intro s t h e
  unfold step at e
  split at e
  · cases e
    exact h
  · next c rest _ => exact OrdersDistinct.exec (s := { s with pending := rest }) h e

end Sys2Proof.Machine
end

section
/-! SUPPORT. The three resets (R19, R50, R91, R98, R115, R133, R144, R150, R168, R183, R193, R203, R204): what the label path
does as it starts, the start-up notices, and what stands after a reset. -/

namespace Sys2Proof.Machine

/-! ### The label path reads nothing of LNK -/

/-- The state with another LNK and another record of outputs. -/
def State.relinked (l : Lnk) (o : List Output) (s : State) : State := { s with lnk := l, outputs := o }

/-- The second state is the first but for LNK and the outputs. -/
def SameBehindLink (s t : State) : Prop := ∃ l o, t = s.relinked l o

section

variable {s t : State}

theorem SameBehindLink.examineHead (h : SameBehindLink s t) : SameBehindLink s.examineHead t.examineHead := by
  obtain ⟨l, o, rfl⟩ := h
  have hl : (s.relinked l o).lbl = s.lbl := rfl
  unfold State.examineHead
  rw [hl]
  split
  · exact ⟨l, o, rfl⟩
  · split
    · exact ⟨l, o, rfl⟩
    · split
      · exact ⟨l, o, rfl⟩
      · exact ⟨_, o, rfl⟩

theorem relinked_linesOf (l : Lnk) (o : List Output) (j : LabelJob) (s : State) :
    (s.relinked l o).linesOf j = s.linesOf j := rfl

theorem SameBehindLink.takeHead {j : LabelJob} {seq : Nat} (h : SameBehindLink s t) :
    SameBehindLink (s.takeHead j seq) (t.takeHead j seq) := by
  obtain ⟨l, o, rfl⟩ := h
  simp only [State.takeHead, relinked_linesOf]
  exact .examineHead ⟨l, o, rfl⟩

theorem SameBehindLink.sendJob {j : LabelJob} (h : SameBehindLink s t) :
    SameBehindLink (s.sendJob j) (t.sendJob j) := by
  obtain ⟨l, o, rfl⟩ := h
  have hr : SameBehindLink (if j.charge then s.reserveSlot else s)
      (if j.charge then (s.relinked l o).reserveSlot else s.relinked l o) := by
    split <;> exact ⟨l, o, rfl⟩
  obtain ⟨l', o', ht⟩ := hr.takeHead (j := j) (seq := s.prn.nextSeq)
  refine ⟨l', o' ++ [.printerFrame (onLine (printFrame s.prn.nextSeq (s.linesOf j)))], ?_⟩
  simp only [State.sendJob, relinked_linesOf]
  change State.emit _ (State.setLink _ (State.modPrn _ (State.takeHead j s.prn.nextSeq _))) = _
  rw [ht]
  rfl

theorem SameBehindLink.sendJobs (fuel : Nat) (h : SameBehindLink s t) :
    SameBehindLink (sendJobs fuel s) (sendJobs fuel t) := by
  induction fuel generalizing s t with
  | zero => exact h
  | succ fuel ih =>
    have hsend : t.sendable = s.sendable := by
      obtain ⟨l, o, rfl⟩ := h
      rfl
    have hjnl : t.jnl = s.jnl := by
      obtain ⟨l, o, rfl⟩ := h
      rfl
    unfold Machine.sendJobs
    rw [hsend, hjnl]
    split
    · exact h
    · split
      · obtain ⟨l, o, rfl⟩ := h
        exact ⟨l, o, rfl⟩
      · exact ih h.sendJob

theorem SameBehindLink.examine (h : SameBehindLink s t) : SameBehindLink s.examine t.examine := by
  have he := h.examineHead
  have ha : SameBehindLink s.examineHead.attempt t.examineHead.attempt := by
    obtain ⟨l, o, ht⟩ := he
    have hw : t.examineHead.prn = s.examineHead.prn := by rw [ht]; rfl
    unfold State.attempt
    rw [hw]
    exact .sendJobs _ ⟨l, o, ht⟩
  have hl : t.examineHead.lbl = s.examineHead.lbl := by
    obtain ⟨l, o, ht⟩ := he
    rw [ht]
    rfl
  simp only [State.examine, hl]
  split
  · split
    · exact ha
    · exact he
  · exact he

end

/-! ### The notices of the label path as it starts (R162, R168) -/

/-- The jobs that are not at the printer, the waiting head first (R149). -/
def Lbl.waiting (l : Lbl) : List LabelJob := l.jobs.filter fun j => !j.isSent

theorem head?_eq_waiting (l : Lbl) : l.head? = l.waiting.head? := by
  simp [Lbl.head?, Lbl.waiting, List.head?_filter]

/-- The TEMPLATE_NEEDED of the waiting head, where it waits for its template (R162). -/
def Lbl.neededNotice (l : Lbl) : List Notice :=
  match l.waiting with
  | j :: _ => if j.state = .templateWait then [.templateNeeded j.template j.roll j.frame] else []
  | [] => []

theorem filter_updateFirst {p : LabelJob → Bool} {f : LabelJob → LabelJob} {l rest : List LabelJob} {j : LabelJob}
    (h : l.filter p = j :: rest) :
    (updateFirst p f l).filter p = if p (f j) then f j :: rest else rest := by
  induction l with
  | nil => cases h
  | cons a l ih =>
    unfold updateFirst
    by_cases ha : p a
    · obtain ⟨rfl, rfl⟩ : a = j ∧ l.filter p = rest := by simpa [ha] using h
      by_cases hf : p (f a) <;> simp [ha, hf]
    · have := ih (by simpa [ha] using h)
      simpa [ha] using this

theorem modHead_waiting {s : State} {j : LabelJob} {rest : List LabelJob} {f : LabelJob → LabelJob}
    (h : s.lbl.waiting = j :: rest) :
    (s.modHead f).lbl.waiting = if (f j).isSent then rest else f j :: rest := by
  refine (filter_updateFirst (p := fun j => !j.isSent) h).trans ?_
  cases (f j).isSent <;> rfl

/-- While the label path starts: LNK's queue has held nothing but the notice of the waiting head, and the jobs behind the head
are QUEUED. -/
structure LabelStarting (l : Lnk) (s : State) : Prop where
  lnk : s.lnk = { l with notices := s.lbl.neededNotice }
  queued : ∀ j ∈ s.lbl.waiting.tail, j.state = .queued

theorem examineHead_starting {l : Lnk} {s : State} (hl : s.lnk = { l with notices := [] })
    (hq : ∀ j ∈ s.lbl.waiting, j.state = .queued) : LabelStarting l s.examineHead := by
  cases hw : s.lbl.waiting with
  | nil =>
    have hs : s.examineHead = s := by simp [State.examineHead, head?_eq_waiting, hw]
    rw [hs]
    exact ⟨by simpa [Lbl.neededNotice, hw] using hl, by simp [hw]⟩
  | cons j rest =>
    have hhead : s.lbl.head? = some j := by rw [head?_eq_waiting, hw, List.head?_cons]
    have hj : j.state = .queued := hq j (by simp [hw])
    have hrest : ∀ k ∈ rest, k.state = .queued := fun k hk => hq k (by simp [hw, hk])
    unfold State.examineHead
    rw [hhead]
    dsimp only
    split
    · have hm := modHead_waiting (f := fun j => { j with state := .queued }) hw
      simp only [LabelJob.isSent, JobState.seq?, Option.isSome_none, Bool.false_eq_true, if_false] at hm
      exact ⟨hl.trans (by simp [Lbl.neededNotice, hm]), by simpa [hm] using hrest⟩
    · rw [if_neg (by simp [hj])]
      have hm := modHead_waiting (f := fun j => { j with state := .templateWait }) hw
      simp only [LabelJob.isSent, JobState.seq?, Option.isSome_none, Bool.false_eq_true, if_false] at hm
      refine ⟨?_, by simpa [hm] using hrest⟩
      simp only [State.raise, State.modLnk_lnk, State.modLnk_lbl, Lbl.neededNotice, hm, if_true]
      change Lnk.raise _ s.lnk = _
      rw [hl]
      rfl

/-- LNK and the label composer alone say whether the label path is starting. -/
theorem LabelStarting.of_eq {l : Lnk} {s t : State} (h : LabelStarting l s) (hl : t.lnk = s.lnk) (hb : t.lbl = s.lbl) :
    LabelStarting l t :=
  ⟨by rw [hl, hb]; exact h.lnk, by rw [hb]; exact h.queued⟩

theorem touchFor_jobs (j : LabelJob) (l : Lbl) : (l.touchFor j).jobs = l.jobs := by
  unfold Lbl.touchFor
  split
  · rfl
  · split <;> rfl

theorem takeHead_starting {l : Lnk} {s : State} {j : LabelJob} {seq : Nat} (h : LabelStarting l s)
    (hj : s.lbl.head? = some j) (hq : j.state = .queued) : LabelStarting l (s.takeHead j seq) := by
  obtain ⟨rest, hw⟩ : ∃ rest, s.lbl.waiting = j :: rest := by
    rw [head?_eq_waiting] at hj
    exact List.head?_eq_some_iff.mp hj
  have hw' : (s.modLbl (Lbl.touchFor j)).lbl.waiting = j :: rest := by
    simpa [Lbl.waiting, touchFor_jobs] using hw
  have hrest : ∀ k ∈ rest, k.state = .queued := by simpa [hw] using h.queued
  have hnone : s.lbl.neededNotice = [] := by simp [Lbl.neededNotice, hw, hq]
  refine examineHead_starting ?_ ?_
  · exact h.lnk.trans (by rw [hnone])
  · rw [modHead_waiting hw']
    simpa [LabelJob.isSent, JobState.seq?] using hrest

theorem sendJob_starting {l : Lnk} {s : State} {j : LabelJob} (h : LabelStarting l s) (hj : s.lbl.head? = some j)
    (hq : j.state = .queued) : LabelStarting l (s.sendJob j) := by
  have hl : (if j.charge then s.reserveSlot else s).lnk = s.lnk := by split <;> rfl
  have hb : (if j.charge then s.reserveSlot else s).lbl = s.lbl := by split <;> rfl
  have ht := takeHead_starting (seq := s.prn.nextSeq) (h.of_eq hl hb) (by rw [hb]; exact hj) hq
  simp only [State.sendJob]
  exact ht.of_eq (by simp [State.setLink]) (by simp [State.setLink])

theorem sendable_some {s : State} {j : LabelJob} (h : s.sendable = some j) :
    s.lbl.head? = some j ∧ j.state = .queued := by
  unfold State.sendable at h
  split at h
  · split at h
    · next k hk =>
      split at h
      · next hc => cases h; exact ⟨hk, hc.1⟩
      · cases h
    · cases h
  · cases h

theorem sendJobs_starting {l : Lnk} (fuel : Nat) {s : State} (h : LabelStarting l s) :
    LabelStarting l (sendJobs fuel s) := by
  induction fuel generalizing s with
  | zero => exact h
  | succ fuel ih =>
    unfold sendJobs
    split
    · exact h
    · next j hj =>
      split
      · exact h.of_eq rfl rfl
      · obtain ⟨hhead, hq⟩ := sendable_some hj
        exact ih (sendJob_starting h hhead hq)

theorem examine_starting {l : Lnk} {s : State} (hl : s.lnk = { l with notices := [] })
    (hq : ∀ j ∈ s.lbl.waiting, j.state = .queued) : LabelStarting l s.examine := by
  have he := examineHead_starting hl hq
  simp only [State.examine]
  split
  · split
    · exact sendJobs_starting _ he
    · exact he
  · exact he

/-- The label path as it starts leaves LNK alone, and its one notice is that of a waiting head without its template. -/
theorem labelStart_lnk {s : State} (hq : ∀ j ∈ s.lbl.waiting, j.state = .queued) :
    s.labelStart.1.lnk = s.lnk ∧ s.labelStart.2 = s.labelStart.1.lbl.neededNotice := by
  have h := examine_starting (l := s.lnk) (s := s.modLnk fun l => { l with notices := [] }) rfl hq
  simp only [State.labelStart, State.modLnk_lnk, State.modLnk_lbl, h.lnk, and_self]

/-! ### Start-up notices joining the queue (R200, R204) -/

theorem raise_notices (n : Notice) (l : Lnk) : ∃ more ov,
    l.raise n = { l with notices := l.notices ++ more, noticeOverflow := ov } ∧
    (l.noticeOverflow = true → ov = true) ∧
    (l.notices.length < 32 → ov = l.noticeOverflow ∧ more = [n]) := by
  unfold Lnk.raise
  split
  · exact ⟨[n], l.noticeOverflow, rfl, id, fun _ => ⟨rfl, rfl⟩⟩
  · next h => exact ⟨[], true, by simp, fun _ => rfl, fun hl => absurd hl h⟩

/-- Notices raised join behind those queued; the overflow flag is not cleared; with room for all none is dropped (R200). -/
theorem raiseAll_notices (ns : List Notice) (l : Lnk) : ∃ more ov,
    ns.foldl (fun l n => l.raise n) l = { l with notices := l.notices ++ more, noticeOverflow := ov } ∧
    (l.noticeOverflow = true → ov = true) ∧
    (l.notices.length + ns.length ≤ 32 → ov = l.noticeOverflow ∧ more = ns) := by
  induction ns generalizing l with
  | nil => exact ⟨[], l.noticeOverflow, by simp, id, fun _ => ⟨rfl, rfl⟩⟩
  | cons n ns ih =>
    obtain ⟨m1, v1, h1, ho1, hr1⟩ := raise_notices n l
    obtain ⟨m2, v2, h2, ho2, hr2⟩ := ih (l.raise n)
    rw [h1] at h2 ho2 hr2
    refine ⟨m1 ++ m2, v2, ?_, fun h => ho2 (ho1 h), fun h => ?_⟩
    · rw [List.foldl_cons, h1, h2, List.append_assoc]
    · simp only [List.length_cons] at h
      obtain ⟨rfl, rfl⟩ := hr1 (by omega)
      obtain ⟨hv, hm⟩ := hr2 (by simp only [List.length_append, List.length_singleton]; omega)
      exact ⟨hv, by rw [hm]; rfl⟩

/-- The start-up notices of the blocks join the queue in some order of the blocks (R204, log entry 7). -/
theorem raiseStart_notices (lists : List (List Notice)) (s : State) : ∃ more ov,
    (s.raiseStart lists).lnk = { s.lnk with notices := s.lnk.notices ++ more, noticeOverflow := ov } ∧
    (s.lnk.noticeOverflow = true → ov = true) ∧
    (s.lnk.notices.length + lists.flatten.length ≤ 32 →
      ov = s.lnk.noticeOverflow ∧ List.Perm more lists.flatten) := by
  have hp := interleave_perm lists.flatten.length (Config.freeStartOrder s.free) lists (Nat.le_refl _)
  obtain ⟨more, ov, h, ho, hr⟩ := raiseAll_notices
    (interleave lists.flatten.length (Config.freeStartOrder s.free) lists) s.lnk
  refine ⟨more, ov, h, ho, fun hroom => ?_⟩
  obtain ⟨hov, rfl⟩ := hr (by rw [hp.length_eq]; exact hroom)
  exact ⟨hov, hp⟩

/-- An order is bound to one station at most, so the ORDER_HELD notices are no more than the ACTIVE orders (R19). -/
theorem length_flatMap_bound (l : List Order) :
    (allStations.flatMap fun st => l.filter fun o => o.bound == some st).length ≤ l.length := by
  induction l with
  | nil => simp [allStations]
  | cons o l ih =>
    simp only [allStations, List.flatMap_cons, List.flatMap_nil, List.length_append, List.length_nil,
      List.filter_cons] at ih ⊢
    cases o.bound with
    | none => simp; omega
    | some st => cases st <;> simp <;> omega

theorem resetHolds_eq (s : State) : s.resetHolds = allStations.flatMap fun st =>
    ((s.ord.orders.filter fun o => o.state == .active).filter fun o => o.bound == some st).map fun o =>
      .orderHeld o.id .reset := by
  simp only [State.resetHolds, List.filter_filter, Bool.and_comm]

theorem resetHolds_length (s : State) :
    s.resetHolds.length ≤ (s.ord.orders.filter fun o => o.state == .active).length := by
  refine Nat.le_trans (Nat.le_of_eq ?_) (length_flatMap_bound _)
  simp only [resetHolds_eq, List.length_flatMap, List.length_map]

/-! ### What stands after a warm or stand reset (R19, R50, R91, R98, R115, R133, R144, R168, R183) -/

/-- The blocks of `t` are those of `k`, the state a warm or stand reset comes up in, once the label path has started. -/
structure ComesUp (k t : State) : Prop where
  ord : t.ord = k.ord
  seqs : t.seqs = k.seqs
  drives : t.drives = k.drives
  gen : t.gen = k.gen
  rol : t.rol = k.rol
  acc : t.acc = k.acc
  jnl : t.jnl = k.examine.jnl
  lbl : t.lbl = k.examine.lbl
  prn : t.prn = k.examine.prn
  clk : t.clk = k.clk
  flt : t.flt = k.flt

theorem labelStart_comesUp {k s : State} (h : SameBehindLink k s) : ComesUp k s.labelStart.1 := by
  have hk := labelStart_keeps s
  have he : SameBehindLink k.examine s.labelStart.1 := by
    have h' : SameBehindLink k (s.modLnk fun l => { l with notices := [] }) := by
      obtain ⟨l, o, rfl⟩ := h
      exact ⟨_, o, rfl⟩
    obtain ⟨l, o, ht⟩ := h'.examine
    exact ⟨{ l with notices := s.lnk.notices }, o, by simp only [State.labelStart, ht]; rfl⟩
  obtain ⟨l, o, ht⟩ := he
  obtain ⟨l', o', rfl⟩ := h
  exact ⟨hk.ord, hk.seqs, hk.drives, hk.gen, hk.rol, hk.acc, by rw [ht]; rfl, by rw [ht]; rfl, by rw [ht]; rfl, hk.clk,
    hk.flt⟩

theorem ComesUp.transmit {k t : State} (h : ComesUp k t) : ComesUp k t.transmit :=
  ⟨h.ord, h.seqs, h.drives, h.gen, h.rol, h.acc, h.jnl, h.lbl, h.prn, h.clk, h.flt⟩

/-- No job of the queue is at the printer after a reset, and each is QUEUED (R168). -/
theorem afterReset_waiting (l : Lbl) : ∀ j ∈ l.afterReset.waiting, j.state = .queued := by
  intro j hj
  obtain ⟨k, _, rfl⟩ := List.mem_map.mp (List.mem_of_mem_filter hj)
  rfl

theorem keepReset_comesUp (lnk l : Lnk) (o : List Output) (doors : PerStation Door) (ready : Bool) (s : State) :
    ComesUp (s.keptReset doors ready) ((s.relinked l o).keepReset lnk doors ready) := by
  have h := labelStart_comesUp (k := s.keptReset doors ready)
    (s := ({ (s.relinked l o).keptReset doors ready with lnk := lnk } : State)) ⟨lnk, o, rfl⟩
  exact ⟨h.ord, h.seqs, h.drives, h.gen, h.rol, h.acc, h.jnl, h.lbl, h.prn, h.clk, h.flt⟩

theorem startNotice_length (j : Jnl) : j.startNotice.length ≤ 1 := by
  unfold Jnl.startNotice
  split <;> simp

theorem neededNotice_length (l : Lbl) : l.neededNotice.length ≤ 1 := by
  unfold Lbl.neededNotice
  split
  · split <;> simp
  · simp

/-- The start-up notices of a warm or stand reset from `s`, block by block as they stand in `u` (R204). -/
def startLists (s u : State) : List (List Notice) :=
  [s.resetHolds, [u.stationNotice .a], [u.stationNotice .b], [u.stationNotice .d],
    [.generatorState u.gen.mode u.gen.heat], u.jnl.startNotice, u.lbl.neededNotice]

theorem keepReset_eq (lnk : Lnk) (doors : PerStation Door) (ready : Bool) (s : State) :
    ∃ u : State, s.keepReset lnk doors ready = u.raiseStart (startLists s u) ∧ u.lnk = lnk := by
  let x : State := { s.keptReset doors ready with lnk := lnk }
  obtain ⟨hl, hn⟩ := labelStart_lnk (s := x) (afterReset_waiting s.lbl)
  refine ⟨x.labelStart.1, ?_, hl⟩
  unfold startLists
  rw [← hn]
  rfl

theorem startLists_length (s u : State) (h : (s.ord.orders.filter fun o => o.state == .active).length ≤ 3) :
    (startLists s u).flatten.length ≤ 9 := by
  have hheld := resetHolds_length s
  have hhigh := startNotice_length u.jnl
  have hneed := neededNotice_length u.lbl
  simp only [startLists, List.flatten_cons, List.flatten_nil, List.length_append, List.length_singleton,
    List.length_nil]
  omega

/-- LNK after a warm or stand reset: the start-up notices stand behind those it had, in some order of the blocks; with three
ACTIVE orders or fewer and room for nine notices none is dropped (R200, R204). -/
theorem keepReset_lnk (lnk : Lnk) (doors : PerStation Door) (ready : Bool) (s : State) :
    let t := s.keepReset lnk doors ready
    ∃ more ov, t.lnk = { lnk with notices := lnk.notices ++ more, noticeOverflow := ov } ∧
      (lnk.noticeOverflow = true → ov = true) ∧
      ((s.ord.orders.filter fun o => o.state == .active).length ≤ 3 → lnk.notices.length ≤ 23 →
        ov = lnk.noticeOverflow ∧ List.Perm more (startLists s t).flatten) := by
  intro t
  obtain ⟨u, ht, hu⟩ := keepReset_eq lnk doors ready s
  have hlists : startLists s t = startLists s u := by
    unfold t
    rw [ht]
    rfl
  obtain ⟨more, ov, hmore, ho, hr⟩ := raiseStart_notices (startLists s u) u
  rw [← ht, hu] at hmore
  rw [hu] at ho hr
  refine ⟨more, ov, hmore, ho, fun hact hroom => ?_⟩
  have hlen := startLists_length s u hact
  rw [hlists]
  exact hr (by omega)

/-- A cold reset leaves every block at its cold value, with its notices behind START (R203, R204). -/
theorem coldReset_eq (pins : ResetPins) (s : State) : ∃ more n, List.Perm more
      [.stationState .a .unloaded none, .stationState .b .unloaded none, .stationState .d .unloaded none,
        .generatorState .off 0] ∧
    s.coldReset pins =
      { coldBlocks { freshLnk .cold (strapRate pins.strap1 pins.strap2) with notices := .start .cold 0 :: more }
          { a := pins.doorA, b := pins.doorB, d := pins.doorD } pins.readyInput with
        outputs := s.outputs, free := n, pending := s.pending } := by
  let t : State := { coldBlocks (freshLnk .cold (strapRate pins.strap1 pins.strap2))
    { a := pins.doorA, b := pins.doorB, d := pins.doorD } pins.readyInput with
    outputs := s.outputs, free := s.free, pending := s.pending }
  let lists : List (List Notice) := [[t.stationNotice .a], [t.stationNotice .b], [t.stationNotice .d],
    [.generatorState t.gen.mode t.gen.heat]]
  have hp := interleave_perm lists.flatten.length (Config.freeStartOrder s.free) lists (Nat.le_refl _)
  refine ⟨_, s.free + 1, hp, ?_⟩
  change State.useFree (t.raiseAll (interleave lists.flatten.length (Config.freeStartOrder s.free) lists)) = _
  rw [raiseAll_room _ t (by rw [hp.length_eq]; exact Nat.le_of_ble_eq_true rfl)]
  rfl

/-- A free transmitter with no reply placed begins to send the oldest notice (R199). -/
theorem transmit_notice {s : State} {n : Notice} {rest : List Notice} (ht : s.lnk.transmitter = none)
    (hr : s.lnk.replies = []) (hn : s.lnk.notices = n :: rest) :
    s.transmit.lnk = { s.lnk with transmitter := some (.notice n), notices := rest } := by
  simp [State.transmit, Lnk.begun, Lnk.begins, Lnk.choice, ht, hr, hn]

/-! ### The blocks of the kept state, as their rules give them -/

/-- A frame is UNCERTAIN after a reset where a job for it was at the printer (R150, R168). -/
theorem frameAfterReset_eq (l : Lbl) (x : Frame) : l.frameAfterReset x =
    if ∃ j ∈ l.jobs, j.isSent = true ∧ j.roll = x.roll ∧ j.frame = x.number then
      { x with uncertain := true
               label := if x.label = .queued ∧ (∀ j ∈ l.jobs, j.roll = x.roll → j.frame = x.number →
                   j.isSent = true) then .none else x.label }
    else x := by
  have hany : ((l.jobs.filter fun j => j.roll == x.roll && j.frame == x.number).any LabelJob.isSent = true) ↔
      ∃ j ∈ l.jobs, j.isSent = true ∧ j.roll = x.roll ∧ j.frame = x.number := by
    simp only [List.any_eq_true, List.mem_filter, Bool.and_eq_true, beq_iff_eq]
    exact ⟨fun ⟨j, ⟨hj, hf⟩, hs⟩ => ⟨j, hj, hs, hf⟩, fun ⟨j, hj, hs, hf⟩ => ⟨j, ⟨hj, hf⟩, hs⟩⟩
  have hall : ((l.jobs.filter fun j => j.roll == x.roll && j.frame == x.number).all LabelJob.isSent = true) ↔
      ∀ j ∈ l.jobs, j.roll = x.roll → j.frame = x.number → j.isSent = true := by
    simp only [List.all_eq_true, List.mem_filter, Bool.and_eq_true, beq_iff_eq, and_imp]
  simp only [Lbl.frameAfterReset, hany, hall]

theorem modeAfterReset_some (r : Roll) :
    modeAfterReset (some r) = if r.state = .full then .awaitUnload else .interrupted := by
  cases h : r.state <;> simp [modeAfterReset, h]

theorem startNotice_eq {j k : Jnl} (h : j.entries = k.entries) : j.startNotice =
    if 192 ≤ k.entries.length then
      [.journalHigh k.entries.length j.reserved ((k.entries.head?.map JournalEntry.seq).getD 0)] else [] := by
  simp only [Jnl.startNotice, Jnl.highNotice, h]
  rfl

/-- Settles O59. -/
theorem resetsKeepOrClear : Obligations.ResetsKeepOrClear := by
  unfold Obligations.ResetsKeepOrClear
  intro active kept startNotices needed
  have hkept (door : Station → Door) (ready : Bool) (s t : State)
      (h : ComesUp (s.keptReset { a := door .a, b := door .b, d := door .d } ready) t) : kept door ready s t := by
    unfold kept
    intro mode frame roll prn seq drive order job u
    have hmode (st : Station) : modeAfterReset (s.rollAt st) = mode st := by
      unfold mode
      cases s.rollAt st with
      | none => rfl
      | some r => exact modeAfterReset_some r
    have hseq (st : Station) : (s.seq st).afterReset (s.rollAt st) = seq st := by
      simp only [seq, ← hmode]
      rfl
    have hroll : Roll.afterReset = roll := by
      funext r
      unfold Roll.afterReset roll
      cases r.state <;> rfl
    have hframe : s.lbl.frameAfterReset = frame := funext (frameAfterReset_eq s.lbl)
    have hu : s.keptReset { a := door .a, b := door .b, d := door .d } ready = u := by
      unfold u
      rw [← hroll, ← hframe, ← hseq, ← hseq, ← hseq]
      rfl
    rw [← hu]
    exact ⟨h.ord, h.seqs, h.drives, h.gen, h.rol, h.acc, h.jnl, h.lbl, h.prn, h.clk, h.flt⟩
  have hlists (doors : PerStation Door) (ready : Bool) (s t : State) (h : ComesUp (s.keptReset doors ready) t) :
      (startLists s t).flatten = startNotices s t ++ needed t := by
    have hentries : t.jnl.entries = s.jnl.entries := by rw [h.jnl, (examine_keeps _).entries]; rfl
    have hneeded : t.lbl.neededNotice = needed t := by
      have hhead : (t.lbl.jobs.find? fun j => !j.isSent) = t.lbl.waiting.head? := head?_eq_waiting t.lbl
      simp only [needed, hhead, Lbl.neededNotice]
      cases t.lbl.waiting <;> rfl
    simp only [startLists, startNotices, ← hneeded, startNotice_eq hentries, resetHolds_eq, h.gen, List.flatten_cons,
      List.flatten_nil, List.append_nil, List.append_assoc]
    rfl
  refine ⟨fun pins s => ⟨((s.relinked s.lnk []).resetBy pins).transmit, rfl, ?_⟩, fun tag s ha => ?_⟩
  · intro kind rate door
    have hrate : strapRate pins.strap1 pins.strap2 = rate := by
      unfold rate strapRate
      cases pins.strap1 <;> cases pins.strap2 <;> rfl
    by_cases hheld : pins.retentionHeld = true
    · have hcomes := keepReset_comesUp (freshLnk .warm rate) s.lnk [] { a := door .a, b := door .b, d := door .d }
        pins.readyInput s
      obtain ⟨more, ov, hlnk, hov, hroom⟩ := keepReset_lnk (freshLnk .warm rate)
        { a := door .a, b := door .b, d := door .d } pins.readyInput (s.relinked s.lnk [])
      have hreset : (s.relinked s.lnk []).resetBy pins = (s.relinked s.lnk []).keepReset (freshLnk .warm rate)
          { a := door .a, b := door .b, d := door .d } pins.readyInput := by
        rw [State.resetBy, if_pos hheld, State.warmReset, hrate]
      have hkind : kind = .warm := if_pos hheld
      have hsent := transmit_notice (by rw [hlnk]; rfl) (by rw [hlnk]; rfl) (by rw [hlnk]; rfl)
      rw [hreset, hsent, hlnk, hkind, if_pos hheld]
      refine ⟨rfl, rfl, rfl, rfl, rfl, rfl, rfl, hkept door _ s _ hcomes.transmit, hov rfl, fun hactive => ?_⟩
      exact hlists _ _ s _ hcomes ▸ (hroom hactive (Nat.le_of_ble_eq_true rfl)).2
    · obtain ⟨more, n, hmore, hcold⟩ := coldReset_eq pins (s.relinked s.lnk [])
      have hreset : (s.relinked s.lnk []).resetBy pins = _ := (if_neg hheld).trans hcold
      have hkind : kind = .cold := if_neg hheld
      have hsent := transmit_notice (s := (s.relinked s.lnk []).resetBy pins) (by rw [hreset]; rfl)
        (by rw [hreset]; rfl) (by rw [hreset]; rfl)
      rw [hsent, hreset, hkind, if_neg hheld]
      refine ⟨rfl, rfl, rfl, rfl, hrate, rfl, rfl, rfl, rfl, fun st => ?_, rfl, rfl, rfl, rfl, rfl, rfl, rfl, rfl, rfl,
        hmore⟩
      cases st <;> rfl
  · have hcomes := keepReset_comesUp s.asked.lnk.standReset s.asked.lnk [] s.doors s.gen.readyInput s
    obtain ⟨more, ov, hlnk, hov, hroom⟩ := keepReset_lnk s.asked.lnk.standReset s.doors s.gen.readyInput s.asked
    refine ⟨s.asked.standReset, request_answers ha rfl, hkept (fun st => (s.drive st).door) _ s _ hcomes, ?_⟩
    intro carried
    have ht : s.asked.standReset.lnk = _ := hlnk
    refine ⟨by rw [ht]; rfl, fun hfull => ?_, more, by rw [ht]; rfl, fun hactive hfew => ?_⟩
    · have hcut : (s.lnk.notices.take 31).length < s.lnk.notices.length := by
        rw [List.length_take]
        omega
      rw [ht]
      exact hov (Bool.or_eq_true_iff.mpr (.inr (decide_eq_true hcut)))
    · have hall : (s.lnk.notices.take 31).length = s.lnk.notices.length := by
        rw [List.length_take]
        omega
      obtain ⟨hsame, hmore⟩ := hroom hactive (Nat.succ_le_succ (hall ▸ hfew))
      rw [ht]
      refine ⟨hsame.trans ?_, hlists _ _ s _ hcomes ▸ hmore⟩
      change (s.lnk.noticeOverflow || decide ((s.lnk.notices.take 31).length < s.lnk.notices.length)) = _
      rw [hall]
      simp

end Sys2Proof.Machine
end

section
/-! SUPPORT. What a grant changes of a station's sequencer: the generator request, the pops fired and the pop awaited of the
station granted, and nothing else of any station (R35, R81 to R86). -/

namespace Sys2Proof.Machine

/-- An item context without what a grant may change of it. -/
def ItemContext.ungranted (c : ItemContext) : ItemContext :=
  { c with request := .none, plan := c.plan.map fun p => { p with fired := 0 } }

/-- A sequencer without what a grant may change of it. -/
def Sequencer.ungranted (q : Sequencer) : Sequencer :=
  { q with popWait := .none, context := q.context.map ItemContext.ungranted }

/-- The sequencers of all stations without what a grant may change of them. -/
def State.ungranted (s : State) (x : Station) : Sequencer := (s.seq x).ungranted

section

variable {s t : State} {st : Station}

/-- What an update of one sequencer keeps of it, it keeps of every station's. -/
theorem modSeq_keeps {α : Type} (g : Sequencer → α) {f : Sequencer → Sequencer}
    (h : g (f (s.seq st)) = g (s.seq st)) (x : Station) : g ((s.modSeq st f).seq x) = g (s.seq x) := by
  by_cases hx : x = st
  · subst hx
    rw [State.modSeq_seq_same, h]
  · rw [State.modSeq_seq_other _ hx]

theorem ungranted_of_seqs (h : t.seqs = s.seqs) : t.ungranted = s.ungranted := by
  funext x
  simp only [State.ungranted, State.seq, h]

theorem modSeq_ungranted {f : Sequencer → Sequencer} (h : ∀ q, (f q).ungranted = q.ungranted) :
    (s.modSeq st f).ungranted = s.ungranted :=
  funext (modSeq_keeps Sequencer.ungranted (h _))

theorem modContext_ungranted {f : ItemContext → ItemContext} (h : ∀ c, (f c).ungranted = c.ungranted) :
    (s.modContext st f).ungranted = s.ungranted :=
  modSeq_ungranted fun q => by cases hc : q.context <;> simp [Sequencer.ungranted, hc, h]

end

section

variable (s : State) (st : Station)

@[simp] theorem State.askPop_ungranted : (s.askPop st).ungranted = s.ungranted := by
  unfold State.askPop
  split
  · split
    · rw [ungranted_of_seqs (State.askFire_seqs ..), modSeq_ungranted, modContext_ungranted]
      · simp [ItemContext.ungranted, Function.comp_def]
      · exact fun _ => rfl
    · rfl
  · rfl

@[simp] theorem State.granted_ungranted : (s.granted st).ungranted = s.ungranted := by
  have h : (s.modContext st fun c => { c with request := .granted }).ungranted = s.ungranted :=
    modContext_ungranted fun _ => rfl
  simp only [State.granted]
  split
  · rw [State.askPop_ungranted, h]
  · exact h

@[simp] theorem State.testChosen_ungranted : s.testChosen.ungranted = s.ungranted := by
  unfold State.testChosen
  split
  · rfl
  · split
    · rfl
    · split
      · rw [State.granted_ungranted]
        rfl
      · rfl

@[simp] theorem State.choose_ungranted : s.choose.ungranted = s.ungranted := by
  unfold State.choose
  split
  · split
    · rw [State.testChosen_ungranted]
      rfl
    · rfl
  · rfl

@[simp] theorem State.releaseGrant_ungranted : (s.releaseGrant st).ungranted = s.ungranted := by
  unfold State.releaseGrant
  split
  · split
    · rw [State.choose_ungranted]
      rfl
    · rfl
  · rfl

@[simp] theorem State.withdraw_ungranted : (s.withdraw st).ungranted = s.ungranted := by
  rw [State.withdraw, State.choose_ungranted]
  rfl

@[simp] theorem State.endGrant_ungranted : (s.endGrant st).ungranted = s.ungranted := by
  rw [State.endGrant, State.releaseGrant_ungranted]
  exact modContext_ungranted fun _ => rfl

@[simp] theorem State.listRequest_ungranted (r : GenRequest) : (s.listRequest r).ungranted = s.ungranted := by
  simp only [State.listRequest]
  split
  · rw [State.choose_ungranted]
    rfl
  · split
    · rw [State.choose_ungranted]
      rfl
    · split
      · rfl
      · split
        · rw [State.testChosen_ungranted]
          rfl
        · rfl
  all_goals rfl

@[simp] theorem State.dropClaim_ungranted : (s.dropClaim st).ungranted = s.ungranted := by
  have h : (s.modContext st fun c => { c with request := .none }).ungranted = s.ungranted :=
    modContext_ungranted fun _ => rfl
  simp only [State.dropClaim]
  split
  · rfl
  · split
    · rfl
    · rw [State.withdraw_ungranted, h]
    · split
      · rw [State.releaseGrant_ungranted, h]
      · rw [modSeq_ungranted, h]
        exact fun _ => rfl

end

/-- What stands in a sequencer beside the item context and the pop awaited is what stands in it without them. -/
theorem seq_of_ungranted {α : Type} (g : Sequencer → α) (hg : ∀ q, g q.ungranted = g q) {s t : State}
    (h : t.ungranted = s.ungranted) (x : Station) : g (t.seq x) = g (s.seq x) := by
  rw [← hg (t.seq x), ← hg (s.seq x)]
  exact congrArg g (congrFun h x)

/-- The item context of a station after grants, but for the request and the pops fired. -/
theorem context_of_ungranted {s t : State} (h : t.ungranted = s.ungranted) (x : Station) :
    (t.seq x).context.map ItemContext.ungranted = (s.seq x).context.map ItemContext.ungranted :=
  congrArg Sequencer.context (congrFun h x)

end Sys2Proof.Machine
end

section
/-! SUPPORT. The settings records of the stations, and the host receiver with them, under every operation that the commands
share (R20, R196). The receiver stands beside the settings because it says which requests the characters of HOST_BAD_FRAME
complete. -/

namespace Sys2Proof.Machine

/-- The settings records of the three stations, and the host receiver. -/
structure Setup where
  a : Settings
  b : Settings
  d : Settings
  receiver : Receiver

/-- What of the state STATION_SET and LNK's own operations alone change. -/
def State.setup (s : State) : Setup :=
  { a := (s.seq .a).settings, b := (s.seq .b).settings, d := (s.seq .d).settings, receiver := s.lnk.receiver }

section

variable {s t : State}

theorem setup_of_eq (hs : ∀ st, (t.seq st).settings = (s.seq st).settings) (hr : t.lnk.receiver = s.lnk.receiver) :
    t.setup = s.setup := by
  simp only [State.setup, hs, hr]

theorem setup_of_ungranted (h : t.ungranted = s.ungranted) (hl : t.lnk = s.lnk) : t.setup = s.setup :=
  setup_of_eq (seq_of_ungranted Sequencer.settings (fun _ => rfl) h) (by rw [hl])

theorem settings_of_setup (h : t.setup = s.setup) (st : Station) : (t.seq st).settings = (s.seq st).settings := by
  cases st
  · exact congrArg Setup.a h
  · exact congrArg Setup.b h
  · exact congrArg Setup.d h

end

section

variable (s : State)

/-! ### The blocks -/

@[simp] theorem State.modSeq_setup {f : Sequencer → Sequencer} (h : ∀ q, (f q).settings = q.settings) (st : Station) :
    (s.modSeq st f).setup = s.setup :=
  setup_of_eq (modSeq_keeps Sequencer.settings (h _)) rfl

@[simp] theorem State.modContext_setup (st : Station) (f : ItemContext → ItemContext) :
    (s.modContext st f).setup = s.setup := by simp [State.modContext]

@[simp] theorem State.modOrd_setup (f : Ord → Ord) : (s.modOrd f).setup = s.setup := rfl
@[simp] theorem State.modDrive_setup (st : Station) (f : Drive → Drive) : (s.modDrive st f).setup = s.setup := rfl
@[simp] theorem State.modGen_setup (f : Gen → Gen) : (s.modGen f).setup = s.setup := rfl
@[simp] theorem State.modRol_setup (f : Rol → Rol) : (s.modRol f).setup = s.setup := rfl
@[simp] theorem State.modAcc_setup (f : Acc → Acc) : (s.modAcc f).setup = s.setup := rfl
@[simp] theorem State.modJnl_setup (f : Jnl → Jnl) : (s.modJnl f).setup = s.setup := rfl
@[simp] theorem State.modClk_setup (f : Clk → Clk) : (s.modClk f).setup = s.setup := rfl
@[simp] theorem State.modLbl_setup (f : Lbl → Lbl) : (s.modLbl f).setup = s.setup := rfl
@[simp] theorem State.modPrn_setup (f : Prn → Prn) : (s.modPrn f).setup = s.setup := rfl
@[simp] theorem State.modFlt_setup (f : Flt → Flt) : (s.modFlt f).setup = s.setup := rfl
@[simp] theorem State.emit_setup (o : Output) : (s.emit o).setup = s.setup := rfl
@[simp] theorem State.useFree_setup : s.useFree.setup = s.setup := rfl
@[simp] theorem State.placeReply_setup (r : Reply) : (s.placeReply r).setup = s.setup := rfl
@[simp] theorem State.modOrder_setup (id : Nat) (f : Order → Order) : (s.modOrder id f).setup = s.setup := rfl
@[simp] theorem State.modItem_setup (id n : Nat) (f : Item → Item) : (s.modItem id n f).setup = s.setup := rfl
@[simp] theorem State.modRoll_setup (n : Nat) (f : Roll → Roll) : (s.modRoll n f).setup = s.setup := rfl
@[simp] theorem State.modFrame_setup (n k : Nat) (f : Frame → Frame) : (s.modFrame n k f).setup = s.setup := rfl
@[simp] theorem State.modAccount_setup (n : Nat) (f : Account → Account) : (s.modAccount n f).setup = s.setup := rfl

@[simp] theorem State.raise_setup (n : Notice) : (s.raise n).setup = s.setup := by
  refine setup_of_eq (fun _ => rfl) ?_
  rcases raise_cases n s with ⟨_, h⟩ | ⟨_, h⟩ <;> rw [h]

@[simp] theorem State.transmit_setup : s.transmit.setup = s.setup := by
  refine setup_of_eq (fun _ => rfl) ?_
  rcases transmit_cases s with h | ⟨_, _, _, _, h⟩ | ⟨_, _, _, _, _, h⟩ <;> rw [h]

/-! ### Orders, journal, accounts, captures, film -/

@[simp] theorem State.holdOrder_setup (id : Nat) (reason : HoldReason) : (s.holdOrder id reason).setup = s.setup := by
  simp [State.holdOrder]

@[simp] theorem State.holdIfActive_setup (id : Nat) (reason : HoldReason) :
    (s.holdIfActive id reason).setup = s.setup := by
  unfold State.holdIfActive
  split <;> simp

@[simp] theorem State.freeOrder_setup (id : Nat) : (s.freeOrder id).setup = s.setup := by
  unfold State.freeOrder
  split <;> simp

@[simp] theorem State.exposeOrder_setup (id : Nat) : (s.exposeOrder id).setup = s.setup := by
  simp [State.exposeOrder]

@[simp] theorem State.reserveSlot_setup : s.reserveSlot.setup = s.setup := rfl

@[simp] theorem State.roomReport_setup : s.roomReport.setup = s.setup := by
  have tell (st : Station) (t : State) :
      (if s.waitsForSlot st then t.modSeq st fun q => { q with roomReport := true } else t).setup = t.setup := by
    split <;> simp
  simp only [State.roomReport, State.modPrn_setup, tell]

@[simp] theorem State.handBackSlot_setup : s.handBackSlot.setup = s.setup := by simp [State.handBackSlot]

@[simp] theorem State.appendEntry_setup (fills : Bool) (e : Nat → JournalEntry) :
    (s.appendEntry fills e).setup = s.setup := by
  simp only [State.appendEntry]
  split <;> simp

@[simp] theorem State.releaseMoney_setup (slot n : Nat) : (s.releaseMoney slot n).setup = s.setup := rfl
@[simp] theorem State.reserveMoney_setup (slot n : Nat) : (s.reserveMoney slot n).setup = s.setup := rfl

@[simp] theorem State.chargeAccount_setup (slot rate : Nat) : (s.chargeAccount slot rate).setup = s.setup :=
  setup_of_eq (fun _ => by simp [State.seq]) (by simp)

@[simp] theorem State.mountAccount_setup (slot rate : Nat) : (s.mountAccount slot rate).setup = s.setup :=
  setup_of_eq (fun _ => by simp [State.seq]) (by simp)

@[simp] theorem State.adjustAccount_setup (slot : Nat) (z : Int) : (s.adjustAccount slot z).setup = s.setup :=
  setup_of_eq (fun _ => by simp [State.seq]) (by simp)

@[simp] theorem State.capture_setup (u : Unit5) (c : Capture) : (s.capture u c).setup = s.setup := by
  unfold State.capture
  split <;> simp

@[simp] theorem State.returnRecords_setup (k : Nat) : (s.returnRecords k).setup = s.setup := rfl
@[simp] theorem State.reserveRecords_setup (k : Nat) : (s.reserveRecords k).setup = s.setup := rfl
@[simp] theorem State.recordFrame_setup (r : Roll) (kind : FrameKind) (e : Option Exposure) :
    (s.recordFrame r kind e).setup = s.setup := rfl
@[simp] theorem State.startMove_setup (st : Station) (m : Move) : (s.startMove st m).setup = s.setup := rfl

@[simp] theorem State.testLabelled_setup (n : Nat) (before : Bool) : (s.testLabelled n before).setup = s.setup := by
  unfold State.testLabelled
  split <;> simp

@[simp] theorem State.rollFull_setup (r : Roll) (st : Station) : (s.rollFull r st).setup = s.setup := by
  simp [State.rollFull]

@[simp] theorem State.rollOut_setup (n : Nat) (st : Station) (f : Roll → Roll) : (s.rollOut n st f).setup = s.setup := by
  simp only [State.rollOut]
  split <;> simp

/-! ### The generator and its grants -/

@[simp] theorem State.raiseGen_setup : s.raiseGen.setup = s.setup := by simp [State.raiseGen]

@[simp] theorem State.askPop_setup (st : Station) : (s.askPop st).setup = s.setup := setup_of_ungranted (by simp) (by simp)
@[simp] theorem State.testChosen_setup : s.testChosen.setup = s.setup := setup_of_ungranted (by simp) (by simp)
@[simp] theorem State.choose_setup : s.choose.setup = s.setup := setup_of_ungranted (by simp) (by simp)
@[simp] theorem State.releaseGrant_setup (st : Station) : (s.releaseGrant st).setup = s.setup :=
  setup_of_ungranted (by simp) (by simp)
@[simp] theorem State.dropClaim_setup (st : Station) : (s.dropClaim st).setup = s.setup :=
  setup_of_ungranted (by simp) (by simp)
@[simp] theorem State.endGrant_setup (st : Station) : (s.endGrant st).setup = s.setup := by simp [State.endGrant]

@[simp] theorem State.listRequest_setup (r : GenRequest) : (s.listRequest r).setup = s.setup := by
  simp only [State.listRequest]
  split
  · simp
  · split
    · simp
    · split
      · rfl
      · split <;> simp
  all_goals rfl

/-! ### A station between frames (R22 to R30, R38, R47, R49) -/

@[simp] theorem State.setMode_setup (st : Station) (m : Mode) : (s.setMode st m).setup = s.setup := by
  simp only [State.setMode]
  split <;> simp

@[simp] theorem State.clearCurrent_setup (st : Station) : (s.clearCurrent st).setup = s.setup := by
  simp [State.clearCurrent]

@[simp] theorem State.dropSlot_setup (st : Station) : (s.dropSlot st).setup = s.setup := by
  unfold State.dropSlot
  split
  · rfl
  · split <;> simp

@[simp] theorem State.dropContext_setup (st : Station) : (s.dropContext st).setup = s.setup := by
  unfold State.dropContext
  split <;> simp

@[simp] theorem State.settle_setup (st : Station) : (s.settle st).setup = s.setup := by simp [State.settle]
@[simp] theorem State.leaveOrder_setup (st : Station) : (s.leaveOrder st).setup = s.setup := by simp [State.leaveOrder]

@[simp] theorem State.holdCurrent_setup (st : Station) (reason : HoldReason) :
    (s.holdCurrent st reason).setup = s.setup := by
  unfold State.holdCurrent
  split <;> simp

@[simp] theorem State.endItem_setup (st : Station) (id n : Nat) (e : ItemState) : (s.endItem st id n e).setup = s.setup := by
  simp only [State.endItem]
  split <;> simp

@[simp] theorem State.orderDone_setup (st : Station) (id : Nat) : (s.orderDone st id).setup = s.setup := by
  simp [State.orderDone]

@[simp] theorem State.endItemFirst_setup (st : Station) : (s.endItemFirst st).setup = s.setup := by
  simp only [State.endItemFirst]
  split
  · split
    · rfl
    · split <;> simp
  · rfl

@[simp] theorem State.takeRollEnd_setup (st : Station) : (s.takeRollEnd st).setup = s.setup := by
  simp only [State.takeRollEnd]
  split
  · split <;> simp
  · simp

@[simp] theorem State.enterFault_setup (st : Station) (c : StationFault) (u : Bool) :
    (s.enterFault st c u).setup = s.setup := by simp [State.enterFault]

end

section

variable (s : State)

@[simp] theorem State.recordFilmEnd_setup (st : Station) : (s.recordFilmEnd st).setup = s.setup := by
  unfold State.recordFilmEnd
  split
  · split <;> simp
  · rfl

@[simp] theorem State.filmEnd_setup (st : Station) : (s.filmEnd st).setup = s.setup := by
  simp only [State.filmEnd]
  split
  · rw [State.takeRollEnd_setup]
    split <;> simp
  · split <;> simp
  · simp

@[simp] theorem State.filmEndIfSeen_setup (st : Station) : (s.filmEndIfSeen st).setup = s.setup := by
  unfold State.filmEndIfSeen
  split <;> simp

@[simp] theorem State.keepHeld_setup (st : Station) (id : Nat) (reason : HoldReason) (hold : StationHold) :
    (s.keepHeld st id reason hold).setup = s.setup := by simp [State.keepHeld]

@[simp] theorem State.makeAnnounce_setup (st : Station) (o : Order) (i : Item) (rates : RateSnapshot) :
    (s.makeAnnounce st o i rates).setup = s.setup := by simp [State.makeAnnounce]

@[simp] theorem State.tryAnnounce_setup (st : Station) (o : Order) (i : Item) :
    (s.tryAnnounce st o i).setup = s.setup := by
  simp only [State.tryAnnounce]
  (repeat' split) <;> simp

@[simp] theorem State.advanceSeparator_setup (st : Station) (o : Order) : (s.advanceSeparator st o).setup = s.setup := by
  unfold State.advanceSeparator
  (repeat' split) <;> simp

end

/-- A run that leaves the settings and the receiver alone. -/
def KeepsSetup (f : State → State) : Prop := ∀ s : State, (f s).setup = s.setup

theorem KeepsSetup.announceFrom {again : State → State} (ha : KeepsSetup again) (fuel : Nat) (st : Station) :
    KeepsSetup (announceFrom again fuel st) := by
  induction fuel with
  | zero => exact fun _ => rfl
  | succ fuel ih =>
    intro s
    simp only [Machine.announceFrom]
    split
    · rfl
    · split
      · rw [ha]
        simp
      · split
        · rw [ih]
          simp
        · simp

theorem KeepsSetup.takeOrder {again : State → State} (ha : KeepsSetup again) (st : Station) (o : Order) :
    KeepsSetup (State.takeOrder again st o) := by
  intro s
  simp only [State.takeOrder]
  split
  · simp
  · rw [State.announce, ha.announceFrom]
    simp

theorem KeepsSetup.giveBack {again : State → State} (ha : KeepsSetup again) (st : Station) :
    KeepsSetup (State.giveBack again st) := by
  intro s
  unfold State.giveBack
  split
  · split
    · exact ha.takeOrder st _ s
    · rfl
  · rfl

theorem KeepsSetup.offer {again : State → State} (ha : KeepsSetup again) (st : Station) :
    KeepsSetup (State.offer again st) := by
  intro s
  unfold State.offer
  split
  · split
    · exact ha.takeOrder st _ s
    · rfl
  · rfl

theorem KeepsSetup.dispatchRun {again : State → State} (ha : KeepsSetup again) : KeepsSetup (dispatchRun again) := by
  intro s
  simp only [Machine.dispatchRun, ha.offer _ _, ha.giveBack _ _]

theorem dispatchTo_keepsSetup (depth : Nat) : KeepsSetup (dispatchTo depth) := by
  induction depth with
  | zero => exact fun _ => rfl
  | succ depth ih => exact ih.dispatchRun

section

variable (s : State) (st : Station)

@[simp] theorem State.dispatch_setup : s.dispatch.setup = s.setup := dispatchTo_keepsSetup _ s

@[simp] theorem State.announce_setup : (s.announce State.dispatch st).setup = s.setup :=
  KeepsSetup.announceFrom State.dispatch_setup _ st s

@[simp] theorem State.becomeReady_setup : (s.becomeReady st).setup = s.setup := by simp [State.becomeReady]

/-! ### The frame sequence at a station (R31 to R49) -/

@[simp] theorem State.genFaultUnfired_setup : (s.genFaultUnfired st).setup = s.setup := by
  simp only [State.genFaultUnfired]
  split <;> simp

@[simp] theorem State.placeRequest_setup (cls energy : Nat) : (s.placeRequest st cls energy).setup = s.setup := by
  unfold State.placeRequest
  split <;> simp

@[simp] theorem State.claim_setup (early : Bool) : (s.claim early st).setup = s.setup := by
  simp only [State.claim]
  split
  · split
    · cases early <;> simp
    · rfl
  · rfl

@[simp] theorem State.takeSlot_setup : (s.takeSlot st).setup = s.setup := by simp [State.takeSlot]

@[simp] theorem State.beginEntry_setup : (s.beginEntry st).setup = s.setup := by
  unfold State.beginEntry
  (repeat' split) <;> simp

@[simp] theorem State.earlyRequest_setup : (s.earlyRequest st).setup = s.setup := by
  unfold State.earlyRequest
  (repeat' split) <;> simp

@[simp] theorem State.advance_setup (early : Bool) : (s.advance early st).setup = s.setup := by
  cases early <;> simp [State.advance]

@[simp] theorem State.recordShot_setup (kind : FrameKind) : (s.recordShot st kind).setup = s.setup := by
  unfold State.recordShot
  split <;> simp

@[simp] theorem State.postExposure_setup (roll frame : Nat) : (s.postExposure st roll frame).setup = s.setup := by
  unfold State.postExposure
  (repeat' split) <;> simp

@[simp] theorem State.completeEntry_setup : (s.completeEntry st).setup = s.setup := by
  simp only [State.completeEntry]
  split <;> simp

@[simp] theorem State.spoilAndLeave_setup : (s.spoilAndLeave st).setup = s.setup := by simp [State.spoilAndLeave]

@[simp] theorem State.misfire_setup : (s.misfire st).setup = s.setup := by
  simp only [State.misfire]
  split
  · split <;> simp
  · rfl

@[simp] theorem State.confirmPop_setup : (s.confirmPop st).setup = s.setup := by
  simp only [State.confirmPop]
  split
  · split <;> simp
  · simp

theorem State.popReport_setup {act : State → State} (ha : KeepsSetup act) : (s.popReport st act).setup = s.setup := by
  simp only [State.popReport]
  split
  · rfl
  · rw [ha]
    simp
  · simp
  · simp

@[simp] theorem State.genFaultHolder_setup (given : Nat) : (s.genFaultHolder st given).setup = s.setup := by
  simp only [State.genFaultHolder]
  split
  · simp
  all_goals split <;> simp

@[simp] theorem State.genFaultWaiting_setup (listed : List GenRequest) :
    (s.genFaultWaiting listed st).setup = s.setup := by
  unfold State.genFaultWaiting
  split <;> simp

@[simp] theorem State.genToFault_setup : s.genToFault.setup = s.setup := by simp [State.genToFault]

@[simp] theorem State.enterGenFault_setup : s.enterGenFault.setup = s.setup := by
  simp only [State.enterGenFault, State.genFaultWaiting_setup]
  split <;> simp

@[simp] theorem State.leave_setup : (s.leave st).setup = s.setup := by
  unfold State.leave
  (repeat' split) <;> simp

/-! ### The end of a move, jams, the door (R37 to R49, R98 to R102, R187, R190) -/

@[simp] theorem State.rest_setup : (s.rest st).setup = s.setup := by
  unfold State.rest
  split <;> simp

@[simp] theorem State.itemOver_setup (c : ItemContext) : (s.itemOver st c).setup = s.setup := by
  simp only [State.itemOver]
  split
  · split <;> simp
  · simp

@[simp] theorem State.advanceOver_setup : (s.advanceOver st).setup = s.setup := by
  unfold State.advanceOver
  (repeat' split) <;> simp

@[simp] theorem State.leaderOn_setup : (s.leaderOn st).setup = s.setup := by
  unfold State.leaderOn
  (repeat' split) <;> simp

@[simp] theorem State.leaderOver_setup : (s.leaderOver st).setup = s.setup := by simp [State.leaderOver]

@[simp] theorem State.recovered_setup : (s.recovered st).setup = s.setup := by simp [State.recovered]

@[simp] theorem State.pullOver_setup : (s.pullOver st).setup = s.setup := by
  unfold State.pullOver
  split <;> simp

@[simp] theorem State.moveOver_setup (m : Move) : (s.moveOver st m).setup = s.setup := by
  cases m with
  | leader | recovery | rewind => simp [State.moveOver]
  | advance =>
    simp only [State.moveOver]
    split
    · split <;> simp
    · simp
    · simp

@[simp] theorem State.jam_setup (m : Move) : (s.jam st m).setup = s.setup := by
  simp only [State.jam]
  split
  · simp
  · split <;> simp

@[simp] theorem State.recover_setup : (s.recover st).setup = s.setup := by
  unfold State.recover
  (repeat' split) <;> simp

@[simp] theorem State.spoilAtDoor_setup : (s.spoilAtDoor st).setup = s.setup := by
  unfold State.spoilAtDoor
  (repeat' split) <;> simp

@[simp] theorem State.rollOpened_setup : (s.rollOpened st).setup = s.setup := by
  unfold State.rollOpened
  (repeat' split) <;> simp

@[simp] theorem State.doorOpen_setup : (s.doorOpen st).setup = s.setup := by
  simp only [State.doorOpen]
  split <;> simp

end

section

variable (s : State)

/-! ### Sending and the printer's reports (R162 to R182) -/

@[simp] theorem State.modHead_setup (f : LabelJob → LabelJob) : (s.modHead f).setup = s.setup := rfl

@[simp] theorem State.setLink_setup (x : LinkState) : (s.setLink x).setup = s.setup := rfl

@[simp] theorem State.examineHead_setup : s.examineHead.setup = s.setup := by
  unfold State.examineHead
  (repeat' split) <;> simp

@[simp] theorem State.takeHead_setup (j : LabelJob) (seq : Nat) : (s.takeHead j seq).setup = s.setup := by
  simp [State.takeHead]

@[simp] theorem State.sendJob_setup (j : LabelJob) : (s.sendJob j).setup = s.setup := by
  simp only [State.sendJob, State.emit_setup, State.setLink_setup, State.modPrn_setup, State.takeHead_setup]
  split <;> rfl

theorem sendJobs_setup (fuel : Nat) (s : State) : (sendJobs fuel s).setup = s.setup := by
  induction fuel generalizing s with
  | zero => rfl
  | succ fuel ih =>
    unfold sendJobs
    split
    · rfl
    · split
      · rfl
      · rw [ih, State.sendJob_setup]

@[simp] theorem State.attempt_setup : s.attempt.setup = s.setup := sendJobs_setup _ s

@[simp] theorem State.examine_setup : s.examine.setup = s.setup := by
  simp only [State.examine]
  (repeat' split) <;> simp

@[simp] theorem State.examineNew_setup (had : Bool) : (s.examineNew had).setup = s.setup := by
  cases had <;> simp [State.examineNew]

@[simp] theorem State.queueJob_setup (f : Frame) (charge : Bool) : (s.queueJob f charge).setup = s.setup := by
  simp only [State.queueJob, State.modFrame_setup, State.modLbl_setup]
  split <;> rfl

@[simp] theorem State.postMount_setup (roll frame : Nat) : (s.postMount roll frame).setup = s.setup := by
  simp only [State.postMount, State.appendEntry_setup]
  split <;> simp

@[simp] theorem State.framePrinted_setup (roll frame : Nat) : (s.framePrinted roll frame).setup = s.setup := by
  simp [State.framePrinted]

@[simp] theorem State.completeOldest_setup : s.completeOldest.setup = s.setup := by
  unfold State.completeOldest
  split
  · rfl
  · extract_lets charged t
    have ht : t.setup = s.setup := State.framePrinted_setup ..
    rw [State.removeSent, State.modLbl_setup]
    split
    · rw [State.postMount_setup, ht]
    · exact ht

theorem completeMany_setup (n : Nat) (s : State) : (completeMany n s).setup = s.setup := by
  induction n generalizing s with
  | zero => rfl
  | succ n ih => rw [completeMany, ih, State.completeOldest_setup]

theorem handBackSlots_setup (xs : List InFlight) (s : State) : (handBackSlots xs s).setup = s.setup := by
  induction xs generalizing s with
  | nil => rfl
  | cons x xs ih =>
    simp only [handBackSlots, List.foldl_cons] at ih ⊢
    rw [ih]
    split <;> simp

@[simp] theorem State.returnAll_setup : s.returnAll.setup = s.setup := by
  simp [State.returnAll, State.returnJobs, handBackSlots_setup]

@[simp] theorem State.markRisk_setup (xs : List InFlight) : (s.markRisk xs).setup = s.setup := by
  induction xs generalizing s with
  | nil => rfl
  | cons x xs ih => exact ih _

@[simp] theorem State.toHeld_setup : s.toHeld.setup = s.setup := rfl

@[simp] theorem State.settleJobs_setup (named : Nat) : (s.settleJobs named).setup = s.setup := by
  unfold State.settleJobs
  (repeat' split) <;> simp [completeMany_setup]

@[simp] theorem State.printerDone_setup (seq : Nat) : (s.printerDone seq).setup = s.setup := by
  simp only [State.printerDone]
  split
  · split
    · rw [State.attempt_setup]
      split <;> simp
    · simp
  · rfl

@[simp] theorem State.printerFault_setup (code : PrinterCode) (named : Nat) :
    (s.printerFault code named).setup = s.setup := by
  unfold State.printerFault
  split <;> simp

@[simp] theorem State.printerReady_setup : s.printerReady.setup = s.setup := by
  unfold State.printerReady
  split <;> simp

@[simp] theorem State.sendAsk_setup : s.sendAsk.setup = s.setup := rfl

@[simp] theorem State.printerTimedOut_setup : s.printerTimedOut.setup = s.setup := by
  simp only [State.printerTimedOut]
  split <;> simp

@[simp] theorem State.statusWaited_setup : s.statusWaited.setup = s.setup := by
  unfold State.statusWaited
  (repeat' split) <;> simp

@[simp] theorem State.setPrinter_setup (f : PrinterSetReq) : (s.setPrinter f).setup = s.setup := by
  simp only [State.setPrinter]
  split <;> simp

@[simp] theorem State.judged_setup (got : PrinterGot) : (s.judged got).setup = s.setup := by
  cases got with
  | nothing => rfl
  | bad => simp [State.judged]
  | good e => cases e <;> simp [State.judged, State.act]

@[simp] theorem State.hear_setup (cs : List PrinterChar) : (s.hear cs).setup = s.setup := by
  have hj (gots : List PrinterGot) (s : State) : (gots.foldl State.judged s).setup = s.setup := by
    induction gots generalizing s with
    | nil => rfl
    | cons g gots ih => rw [List.foldl_cons, ih, State.judged_setup]
  unfold State.hear
  split
  · rfl
  · exact hj _ _

end

end Sys2Proof.Machine
end

section
/-! SUPPORT. The settings and the host receiver under every request but STATION_SET and under every event but a cold reset,
so under every such command (R20, R203). -/

namespace Sys2Proof.Machine

/-! ### The requests (R197) -/

/-- What a request answers with the settings and the receiver as it finds them. -/
def SetupKept {α : Type} (owner : α → State → Answer) : Prop := ∀ f s, (owner f s).state.setup = s.setup

theorem Reads.setupKept {α : Type} {owner : α → State → Answer} (h : Reads owner) : SetupKept owner := fun f s => by
  rw [h f s]

theorem setupKept_atStation {α : Type} {n : α → Nat} {owner : α → Station → State → Answer}
    (h : ∀ f st s, (owner f st s).state.setup = s.setup) : SetupKept fun f s => atStation (n f) s (owner f) := by
  intro f s
  show (atStation (n f) s (owner f)).state.setup = s.setup
  unfold atStation
  split
  · rfl
  · exact h f _ s

theorem setupKept_orderOpen : SetupKept answerOrderOpen := by
  intro f s
  unfold answerOrderOpen
  (repeat' split) <;> simp

theorem setupKept_itemAdd : SetupKept answerItemAdd := by
  intro f s
  unfold answerItemAdd
  (repeat' split) <;> simp

theorem setupKept_orderSubmit : SetupKept answerOrderSubmit := by
  intro f s
  simp only [answerOrderSubmit]
  (repeat' split) <;> simp

theorem setupKept_hold : SetupKept answerHold := by
  intro f s
  simp only [answerHold]
  (repeat' split) <;> simp

theorem setupKept_release : SetupKept answerRelease := by
  intro f s
  unfold answerRelease
  (repeat' split) <;> simp

theorem setupKept_orderPriority : SetupKept answerOrderPriority := by
  intro f s
  unfold answerOrderPriority
  (repeat' split) <;> simp

theorem releaseKeeper_setup (id : Nat) (st : Station) (s : State) : (s.releaseKeeper id st).setup = s.setup := by
  unfold State.releaseKeeper
  (repeat' split) <;> simp

theorem setupKept_orderCancel : SetupKept answerOrderCancel := by
  intro f s
  simp only [answerOrderCancel]
  (repeat' split) <;> simp [releaseKeeper_setup]

theorem setupKept_placed : SetupKept answerPlaced := setupKept_atStation fun f st s => by
  split <;> simp [State.place]

theorem setupKept_inputTake : SetupKept answerInputTake := setupKept_atStation fun f st s => by simp

theorem setupKept_skipItem : SetupKept answerSkipItem := setupKept_atStation fun f st s => by
  split
  · dsimp only
    split <;> simp
  · rfl
  · rfl

theorem setupKept_abort : SetupKept answerAbort := setupKept_atStation fun f st s => by
  split <;> simp

theorem setupKept_genClear : SetupKept answerGenClear := by
  intro f s
  unfold answerGenClear
  (repeat' split) <;> simp

theorem setupKept_stockSet : SetupKept answerStockSet := by
  intro f s
  unfold answerStockSet
  (repeat' split) <;> simp

theorem setupKept_stockSetRemove : SetupKept answerStockSetRemove := by
  intro f s
  unfold answerStockSetRemove
  (repeat' split) <;> simp

theorem setupKept_load : SetupKept answerLoad := setupKept_atStation fun f st s => by
  (repeat' split) <;> simp

theorem setupKept_unloadEarly : SetupKept answerUnloadEarly := setupKept_atStation fun f st s => by
  (repeat' split) <;> simp

theorem setupKept_cull : SetupKept answerCull := by
  intro f s
  simp only [answerCull]
  (repeat' split) <;> simp

theorem setupKept_closeRoll : SetupKept answerCloseRoll := by
  have hfree (ids : List Nat) (s : State) : (ids.foldl (fun t id => t.freeOrder id) s).setup = s.setup := by
    induction ids generalizing s with
    | nil => rfl
    | cons id ids ih => rw [List.foldl_cons, ih, State.freeOrder_setup]
  intro f s
  unfold answerCloseRoll
  split
  · rfl
  · split
    · rfl
    · split
      · rfl
      · split
        · rfl
        · exact hfree _ (s.freeRoll f.roll)

theorem setupKept_confirmRoll : SetupKept answerConfirmRoll := setupKept_atStation fun f st s => by
  (repeat' split) <;> simp

theorem setupKept_declareUnloaded : SetupKept answerDeclareUnloaded := setupKept_atStation fun f st s => by
  split
  · rfl
  · dsimp only
    split <;> simp

theorem setupKept_tariffSet : SetupKept answerTariffSet := by
  intro f s
  unfold answerTariffSet
  split <;> simp

theorem setupKept_accountSet : SetupKept answerAccountSet := by
  intro f s
  unfold answerAccountSet
  (repeat' split) <;> simp

theorem setupKept_accountClear : SetupKept answerAccountClear := by
  intro f s
  unfold answerAccountClear
  (repeat' split) <;> simp

theorem setupKept_adjust : SetupKept answerAdjust := by
  intro f s
  simp only [answerAdjust]
  (repeat' split) <;> simp

theorem setupKept_journalRelease : SetupKept answerJournalRelease := by
  intro f s
  simp only [answerJournalRelease]
  (repeat' split) <;> simp

theorem setupKept_clockSet : SetupKept answerClockSet := by
  intro f s
  unfold answerClockSet
  split <;> simp

theorem setupKept_labelRoll : SetupKept answerLabelRoll := by
  have hqueue (now : List Frame) (s : State) : (now.foldl (fun t x => t.queueJob x true) s).setup = s.setup := by
    induction now generalizing s with
    | nil => rfl
    | cons x now ih => rw [List.foldl_cons, ih, State.queueJob_setup]
  intro f s
  simp only [answerLabelRoll]
  (repeat' split) <;> simp [hqueue]

theorem setupKept_labelFrame : SetupKept answerLabelFrame := by
  intro f s
  unfold answerLabelFrame
  (repeat' split) <;> simp

theorem setupKept_labelCancel : SetupKept answerLabelCancel := by
  intro f s
  simp only [answerLabelCancel]
  (repeat' split) <;> simp [State.cancelJobs]

theorem setupKept_templateLoad : SetupKept answerTemplateLoad := by
  intro f s
  simp only [answerTemplateLoad]
  (repeat' split) <;> simp

theorem setupKept_templateLock : SetupKept answerTemplateLock := by
  intro f s
  simp only [answerTemplateLock]
  (repeat' split) <;> simp

theorem setupKept_templateUnlock : SetupKept answerTemplateUnlock := by
  intro f s
  unfold answerTemplateUnlock
  (repeat' split) <;> simp

theorem setupKept_templateDrop : SetupKept answerTemplateDrop := by
  intro f s
  unfold answerTemplateDrop
  (repeat' split) <;> simp

theorem setupKept_printerSet : SetupKept answerPrinterSet := by
  intro f s
  simp only [answerPrinterSet]
  (repeat' split) <;> simp

theorem setupKept_printerStatus : SetupKept answerPrinterStatus := by
  intro f s
  simp only [answerPrinterStatus, taken_state]
  split <;> simp

theorem setupKept_faultClear : SetupKept answerFaultClear := by
  intro f s
  unfold answerFaultClear
  split
  · rfl
  · split
    · rfl
    · simp only [taken_state, State.recoverUnit]
      split <;> simp

theorem setupKept_status : SetupKept answerStatus := fun _ _ => rfl

/-- A warm or stand reset keeps the settings records (R50). -/
theorem keepReset_settings (lnk : Lnk) (doors : PerStation Door) (ready : Bool) (s : State) (st : Station) :
    ((s.keepReset lnk doors ready).seq st).settings = (s.seq st).settings := by
  have hseqs : (s.keepReset lnk doors ready).seqs = (s.keptReset doors ready).seqs :=
    (keepReset_comesUp lnk s.lnk s.outputs doors ready s).seqs
  simp only [State.seq, hseqs]
  cases st <;> rfl

theorem setupKept_standReset : SetupKept answerStandReset := fun _ s => by
  obtain ⟨more, ov, hlnk, _⟩ := keepReset_lnk s.lnk.standReset s.doors s.gen.readyInput s
  exact setup_of_eq (keepReset_settings _ _ _ s) (by
    rw [show (answerStandReset () s).state = s.keepReset s.lnk.standReset s.doors s.gen.readyInput from rfl, hlnk]
    rfl)

/-! ### Requests as LNK takes them (R197) -/

section

variable {s : State}

theorem takeRequest_setup {kind tag : Byte} {answer : State → Answer} (h : ∀ s, (answer s).state.setup = s.setup)
    (s : State) : (takeRequest kind tag answer s).setup = s.frameTaken.setup := by
  simp only [takeRequest]
  split
  · rfl
  · split
    · rfl
    · rw [State.placeReply_setup, h]

theorem SetupKept.takePayload {α : Type} {kind : RequestKind} {tag : Byte} {p : Payload α} {owner : α → State → Answer}
    (h : SetupKept owner) (s : State) : (takePayload kind tag p owner s).setup = s.frameTaken.setup :=
  takeRequest_setup (fun t => by
    cases p with
    | fields f => exact h f t
    | malformed => rfl) s

/-- A request other than STATION_SET leaves the settings as they were, and the receiver HUNTING as its frame does; an event
is no request. -/
theorem takeCommand_setup {c : Instr} (hc : ∀ tag p, c ≠ .stationSet tag p) (s : State) :
    (s.takeCommand c).setup = s.frameTaken.setup ∨ (s.takeCommand c).setup = s.setup := by
  cases c with
  | stationSet tag p => exact absurd rfl (hc tag p)
  | orderOpen => exact .inl (setupKept_orderOpen.takePayload s)
  | itemAdd => exact .inl (setupKept_itemAdd.takePayload s)
  | orderSubmit => exact .inl (setupKept_orderSubmit.takePayload s)
  | hold => exact .inl (setupKept_hold.takePayload s)
  | release => exact .inl (setupKept_release.takePayload s)
  | orderPriority => exact .inl (setupKept_orderPriority.takePayload s)
  | orderCancel => exact .inl (setupKept_orderCancel.takePayload s)
  | placed => exact .inl (setupKept_placed.takePayload s)
  | inputTake => exact .inl (setupKept_inputTake.takePayload s)
  | skipItem => exact .inl (setupKept_skipItem.takePayload s)
  | abort => exact .inl (setupKept_abort.takePayload s)
  | genClear => exact .inl (setupKept_genClear.takePayload s)
  | stockSet => exact .inl (setupKept_stockSet.takePayload s)
  | stockSetRemove => exact .inl (setupKept_stockSetRemove.takePayload s)
  | load => exact .inl (setupKept_load.takePayload s)
  | unloadEarly => exact .inl (setupKept_unloadEarly.takePayload s)
  | cull => exact .inl (setupKept_cull.takePayload s)
  | closeRoll => exact .inl (setupKept_closeRoll.takePayload s)
  | confirmRoll => exact .inl (setupKept_confirmRoll.takePayload s)
  | declareUnloaded => exact .inl (setupKept_declareUnloaded.takePayload s)
  | tariffSet => exact .inl (setupKept_tariffSet.takePayload s)
  | accountSet => exact .inl (setupKept_accountSet.takePayload s)
  | accountClear => exact .inl (setupKept_accountClear.takePayload s)
  | adjust => exact .inl (setupKept_adjust.takePayload s)
  | journalRelease => exact .inl (setupKept_journalRelease.takePayload s)
  | clockSet => exact .inl (setupKept_clockSet.takePayload s)
  | labelRoll => exact .inl (setupKept_labelRoll.takePayload s)
  | labelFrame => exact .inl (setupKept_labelFrame.takePayload s)
  | labelCancel => exact .inl (setupKept_labelCancel.takePayload s)
  | templateLoad => exact .inl (setupKept_templateLoad.takePayload s)
  | templateLock => exact .inl (setupKept_templateLock.takePayload s)
  | templateUnlock => exact .inl (setupKept_templateUnlock.takePayload s)
  | templateDrop => exact .inl (setupKept_templateDrop.takePayload s)
  | printerSet => exact .inl (setupKept_printerSet.takePayload s)
  | printerStatus => exact .inl (setupKept_printerStatus.takePayload s)
  | faultClear => exact .inl (setupKept_faultClear.takePayload s)
  | status => exact .inl (setupKept_status.takePayload s)
  | standReset => exact .inl (setupKept_standReset.takePayload s)
  | orderRead => exact .inl (reads_orderRead.setupKept.takePayload s)
  | itemRead => exact .inl (reads_itemRead.setupKept.takePayload s)
  | stationRead => exact .inl (reads_stationRead.setupKept.takePayload s)
  | planQueryDirect => exact .inl (reads_planQueryDirect.setupKept.takePayload s)
  | planQueryStation => exact .inl (reads_planQueryStation.setupKept.takePayload s)
  | planQueryItem => exact .inl (reads_planQueryItem.setupKept.takePayload s)
  | genRead => exact .inl (reads_genRead.setupKept.takePayload s)
  | stockRead => exact .inl (reads_stockRead.setupKept.takePayload s)
  | frameRead => exact .inl (reads_frameRead.setupKept.takePayload s)
  | tariffRead => exact .inl (reads_tariffRead.setupKept.takePayload s)
  | accountRead => exact .inl (reads_accountRead.setupKept.takePayload s)
  | journalRead => exact .inl (reads_journalRead.setupKept.takePayload s)
  | clockRead => exact .inl (reads_clockRead.setupKept.takePayload s)
  | labelRead => exact .inl (reads_labelRead.setupKept.takePayload s)
  | templateRead => exact .inl (reads_templateRead.setupKept.takePayload s)
  | faultRead => exact .inl (reads_faultRead.setupKept.takePayload s)
  | ident => exact .inl (reads_ident.setupKept.takePayload s)
  | unknownKind => exact .inl (takeRequest_setup (fun _ => rfl) s)
  | _ => exact .inr rfl

theorem takeCommand_settings {c : Instr} (hc : ∀ tag p, c ≠ .stationSet tag p) (s : State) (st : Station) :
    ((s.takeCommand c).seq st).settings = (s.seq st).settings := by
  rcases takeCommand_setup hc s with h | h
  · exact (settings_of_setup h st).trans (by rw [State.frameTaken_seq])
  · exact settings_of_setup h st

/-! ### The characters of the host line (R196) -/

/-- A character that ends a good frame leaves the receiver HUNTING (R196). -/
theorem take_good {r : Receiver} {c : HostChar} {f : RequestFrame} (h : (r.take c).2 = .good f) :
    (r.take c).1 = .hunting := by
  cases r with
  | hunting =>
    cases c with
    | bad => rfl
    | byte b =>
      simp only [Receiver.take] at h
      split at h <;> cases h
  | collecting bs =>
    cases c with
    | bad => rfl
    | byte b =>
      simp only [Receiver.take] at h ⊢
      generalize bs ++ [b] = all at h ⊢
      cases all with
      | nil => rfl
      | cons len rest =>
        dsimp only at h ⊢
        split
        · rfl
        · next hlen =>
          rw [if_neg hlen] at h
          split
          · rfl
          · next hend => rw [if_neg hend] at h; cases h

/-- What the frame that a character ends does leaves the settings, and the receiver as the character left it. -/
theorem takeReceived_setup {c : HostChar}
    (hc : ∀ f, (s.lnk.receiver.take c).2 = .good f → f.tag ≠ 0 → ∀ tag p, commandOf f ≠ .stationSet tag p) :
    ((s.receive (s.lnk.receiver.take c).1).takeReceived (s.lnk.receiver.take c).2).setup =
      (s.receive (s.lnk.receiver.take c).1).setup := by
  generalize hg : (s.lnk.receiver.take c).2 = got at hc
  cases got with
  | nothing | bad => rfl
  | good f =>
    simp only [State.takeReceived]
    split
    · rfl
    · next htag =>
      rw [take_good hg, State.transmit_setup]
      exact (takeCommand_setup (hc f rfl htag) _).elim id id

theorem mem_broughtBy_head {c : HostChar} {cs : List HostChar} {f : RequestFrame}
    (hg : (s.lnk.receiver.take c).2 = .good f) (htag : f.tag ≠ 0) :
    commandOf f ∈ broughtBy (.hostBadFrame (c :: cs)) s :=
  List.mem_filterMap.mpr ⟨.good f, hg ▸ List.mem_cons_self, if_neg htag⟩

theorem mem_broughtBy_tail {c : HostChar} {cs : List HostChar} {u : State} {r : Instr}
    (hu : u.lnk.receiver = (s.lnk.receiver.take c).1) (h : r ∈ broughtBy (.hostBadFrame cs) u) :
    r ∈ broughtBy (.hostBadFrame (c :: cs)) s := by
  obtain ⟨got, hgot, hr⟩ := List.mem_filterMap.mp h
  rw [hu] at hgot
  exact List.mem_filterMap.mpr ⟨got, List.mem_cons_of_mem _ hgot, hr⟩

/-- Characters that bring about no STATION_SET leave the settings alone. -/
theorem hearHost_settings {cs : List HostChar} (h : ∀ r ∈ broughtBy (.hostBadFrame cs) s, ∀ tag p, r ≠ .stationSet tag p)
    (st : Station) : ((s.hearHost cs).seq st).settings = (s.seq st).settings := by
  induction cs generalizing s with
  | nil => rfl
  | cons c cs ih =>
    have hstep := takeReceived_setup (s := s) (c := c) fun f hg htag => h _ (mem_broughtBy_head hg htag)
    have hreceiver := congrArg Setup.receiver hstep
    calc ((s.hearHost (c :: cs)).seq st).settings
        = (((s.receive _).takeReceived _).seq st).settings := ih fun r hr => h r (mem_broughtBy_tail hreceiver hr)
      _ = (s.seq st).settings := settings_of_setup hstep st

/-! ### Every command -/

theorem resetBy_settings {pins : ResetPins} (h : pins.retentionHeld = true) (st : Station) :
    ((s.resetBy pins).seq st).settings = (s.seq st).settings := by
  rw [State.resetBy, if_pos h]
  exact keepReset_settings ..

theorem readyRises_setup (s : State) : s.readyRises.setup = s.setup := by
  simp only [State.readyRises]
  split
  · simp only [State.charged]
    split
    · rfl
    · rfl
    · simp
  · rfl

theorem readyFalls_setup (s : State) : s.readyFalls.setup = s.setup := by
  simp only [State.readyFalls]
  split <;> simp

theorem afterFiring_setup {act : Station → State → State} (ha : ∀ st, KeepsSetup (act st)) (s : State) :
    (s.afterFiring act).setup = s.setup := by
  unfold State.afterFiring
  split
  · exact State.popReport_setup _ _ (ha _)
  · simp

theorem flashReported_setup (s : State) : s.flashReported.setup = s.setup := by
  unfold State.flashReported
  split
  · exact afterFiring_setup (fun st s => s.confirmPop_setup st) _
  · rfl

theorem windowExpired_setup (s : State) : s.windowExpired.setup = s.setup := by
  unfold State.windowExpired
  split
  · exact afterFiring_setup (fun st s => s.misfire_setup st) _
  · rfl

theorem chargeTimedOut_setup (s : State) : s.chargeTimedOut.setup = s.setup := by
  unfold State.chargeTimedOut
  split <;> simp

theorem idleExpired_setup (s : State) : s.idleExpired.setup = s.setup := by
  unfold State.idleExpired
  (repeat' split) <;> simp

theorem cooled_setup (s : State) : s.cooled.setup = s.setup := by simp [State.cooled]

theorem minutePassed_setup (s : State) : s.minutePassed.setup = s.setup := by
  unfold State.minutePassed
  split <;> simp

theorem gapExpired_settings (s : State) (st : Station) : (s.gapExpired.seq st).settings = (s.seq st).settings := by
  unfold State.gapExpired
  split <;> rfl

theorem footEdge_setup (st : Station) (edge : Edge) (s : State) : (s.footEdge st edge).setup = s.setup := by
  simp only [State.footEdge]
  (repeat' split) <;> simp [State.place]

theorem pulse_setup (st : Station) (s : State) : (s.pulse st).setup = s.setup := by
  simp only [State.pulse]
  (repeat' split) <;> simp

theorem advanceTimedOut_setup (st : Station) (s : State) : (s.advanceTimedOut st).setup = s.setup := by
  unfold State.advanceTimedOut
  split <;> simp

theorem endSensed_setup (st : Station) (s : State) : (s.endSensed st).setup = s.setup := by
  unfold State.endSensed
  split <;> simp

theorem rewound_setup (st : Station) (s : State) : (s.rewound st).setup = s.setup := by
  simp only [State.rewound]
  (repeat' split) <;> simp

theorem rewindTimedOut_setup (st : Station) (s : State) : (s.rewindTimedOut st).setup = s.setup := by
  simp only [State.rewindTimedOut]
  split <;> simp

theorem askSlotAgain_setup (st : Station) (s : State) : (s.askSlotAgain st).setup = s.setup := by
  simp only [State.askSlotAgain]
  (repeat' split) <;> simp

theorem attemptAgain_setup (s : State) : s.attemptAgain.setup = s.setup := by
  unfold State.attemptAgain
  split <;> simp

/-- UNKNOWN_KIND is the event of the one request that it brings about (R197, log entry 6). -/
theorem execUnknownKind_eq (tag kind : Byte) (s : State) : ∃ c, broughtBy (.unknownKind tag kind) s = [c] ∧
    exec (.unknownKind tag kind) s = event (State.takeCommand c) s := by
  change ∃ c, [if namesRequest kind then _ else _] = [c] ∧ execUnknownKind tag kind s = _
  unfold execUnknownKind
  split <;> exact ⟨_, rfl, rfl⟩

/-- Every command but STATION_SET and a cold reset is an event that leaves the settings alone. -/
theorem exec_keepsSettings {c : Instr} (h : ∀ r ∈ broughtBy c s, ∀ tag p, r ≠ .stationSet tag p)
    (hcold : isColdReset c = false) :
    ∃ f, exec c s = event f s ∧ ∀ st, ((f s.begun).seq st).settings = (s.seq st).settings := by
  cases c with
  | hostBadFrame chars => exact ⟨_, rfl, hearHost_settings (s := s.begun) h⟩
  | unknownKind tag kind =>
    obtain ⟨c, hb, he⟩ := execUnknownKind_eq tag kind s
    exact ⟨_, he, takeCommand_settings (h c (by simp [hb])) s.begun⟩
  | reset pins => exact ⟨_, rfl, resetBy_settings (by simpa [isColdReset] using hcold)⟩
  | interByteGap => exact ⟨_, rfl, gapExpired_settings s.begun⟩
  | frameSent => exact ⟨_, rfl, fun _ => rfl⟩
  | doorClosed => exact ⟨_, rfl, fun _ => rfl⟩
  | footSwitchEdge st edge => exact ⟨_, rfl, settings_of_setup (footEdge_setup st edge s.begun)⟩
  | doorOpened st => exact ⟨_, rfl, settings_of_setup (s.begun.doorOpen_setup st)⟩
  | sprocketPulse st => exact ⟨_, rfl, settings_of_setup (pulse_setup st s.begun)⟩
  | advanceTimeout st => exact ⟨_, rfl, settings_of_setup (advanceTimedOut_setup st s.begun)⟩
  | endOfFilmSensor st => exact ⟨_, rfl, settings_of_setup (endSensed_setup st s.begun)⟩
  | rewindDone st => exact ⟨_, rfl, settings_of_setup (rewound_setup st s.begun)⟩
  | rewindTimerExpiry st => exact ⟨_, rfl, settings_of_setup (rewindTimedOut_setup st s.begun)⟩
  | readyInputRise => exact ⟨_, rfl, settings_of_setup (readyRises_setup s.begun)⟩
  | readyInputFall => exact ⟨_, rfl, settings_of_setup (readyFalls_setup s.begun)⟩
  | flashSensorReport => exact ⟨_, rfl, settings_of_setup (flashReported_setup s.begun)⟩
  | flashConfirmWindowExpiry => exact ⟨_, rfl, settings_of_setup (windowExpired_setup s.begun)⟩
  | chargeTimerExpiry => exact ⟨_, rfl, settings_of_setup (chargeTimedOut_setup s.begun)⟩
  | idleDischarge => exact ⟨_, rfl, settings_of_setup (idleExpired_setup s.begun)⟩
  | cooling => exact ⟨_, rfl, settings_of_setup (cooled_setup s.begun)⟩
  | minuteTimerExpiry => exact ⟨_, rfl, settings_of_setup (minutePassed_setup s.begun)⟩
  | printerDone => exact ⟨_, rfl, settings_of_setup (s.begun.hear_setup _)⟩
  | printerFault => exact ⟨_, rfl, settings_of_setup (s.begun.hear_setup _)⟩
  | printerReady => exact ⟨_, rfl, settings_of_setup (s.begun.hear_setup _)⟩
  | badFrame => exact ⟨_, rfl, settings_of_setup (s.begun.hear_setup _)⟩
  | printerTimerExpiry => exact ⟨_, rfl, settings_of_setup s.begun.printerTimedOut_setup⟩
  | statusWaitExpiry => exact ⟨_, rfl, settings_of_setup s.begun.statusWaited_setup⟩
  | stationSlotRequest st => exact ⟨_, rfl, settings_of_setup (askSlotAgain_setup st s.begun)⟩
  | printerSlotRequest => exact ⟨_, rfl, settings_of_setup (attemptAgain_setup s.begun)⟩
  | _ => exact ⟨_, exec_request rfl (by simp) s, takeCommand_settings (h _ (by simp [broughtBy])) s.begun⟩

end

/-- Settles O28: every other command is an event made of operations that keep the settings records. -/
theorem settingsChangeByStationSetAlone : Obligations.SettingsChangeByStationSetAlone := by
  intro c s t st h hcold e
  obtain ⟨f, hf, hk⟩ := exec_keepsSettings h hcold
  rw [hf] at e
  cases e
  exact hk st

end Sys2Proof.Machine
end

section
/-! SUPPORT. The room of the journal: what a room report tells and to whom, a slot taken, and JOURNAL_RELEASE (R22, R137,
R140, R143). -/

namespace Sys2Proof.Machine

variable {s : State}

/-- A room report changes the sequencers and the printer link alone. -/
theorem roomReport_eq (s : State) : ∃ q p, s.roomReport = { s with seqs := q, prn := p } := by
  simp only [State.roomReport]
  (repeat' split) <;> exact ⟨_, _, rfl⟩

/-- A room report sets the flag of a station that waits for a slot, and changes no other sequencer (R140). -/
theorem roomReport_seq (s : State) (x : Station) : s.roomReport.seq x =
    if s.waitsForSlot x then { s.seq x with roomReport := true } else s.seq x := by
  have told (st : Station) (t : State) :
      (if s.waitsForSlot st then t.modSeq st fun q => { q with roomReport := true } else t).seq st =
        if s.waitsForSlot st then { t.seq st with roomReport := true } else t.seq st := by
    split <;> simp
  have other (st st' : Station) (h : st' ≠ st) (t : State) :
      (if s.waitsForSlot st then t.modSeq st fun q => { q with roomReport := true } else t).seq st' = t.seq st' := by
    split
    · exact t.modSeq_seq_other h _
    · rfl
  simp only [State.roomReport, State.modPrn_seq]
  cases x with
  | a => rw [other .d .a (by decide), other .b .a (by decide), told]
  | b => rw [other .d .b (by decide), told, other .a .b (by decide)]
  | d => rw [told, other .b .d (by decide), other .a .d (by decide)]

theorem roomReport_prn (s : State) :
    s.roomReport.prn = if s.prn.paused then { s.prn with roomReport := true } else s.prn := by
  simp only [State.roomReport, State.modPrn_prn]
  (repeat' split) <;> simp_all

theorem waitsForSlot_iff (st : Station) (s : State) : s.waitsForSlot st = true ↔
    (s.seq st).mode = .held .journalFull ∧
      ∃ id o, (s.seq st).current = some id ∧ s.order? id = some o ∧ o.state = .active := by
  unfold State.waitsForSlot
  cases hc : (s.seq st).current with
  | none => simp
  | some id => cases ho : s.order? id <;> simp [State.orderActive, ho]

theorem answerJournalRelease_inRange {f : JournalReleaseReq} (h : within 1 4294967295 f.number)
    (hn : ¬ s.jnl.next - 1 < f.number) :
    answerJournalRelease f s =
      let rest := s.jnl.entries.dropWhile fun e => decide (e.seq ≤ f.number)
      let u := { s with jnl := { s.jnl with entries := rest } }
      taken (if rest.length < s.jnl.entries.length then u.roomReport else u)
        (.released (s.jnl.entries.length - rest.length) rest.length (rest.head?.map JournalEntry.seq)) := by
  unfold answerJournalRelease
  rw [if_neg (not_not.mpr h), if_neg hn]
  simp only [Nat.sub_pos_iff_lt]
  rfl

/-- Settles O48, clause by clause in the order of the statement. -/
theorem releaseMakesRoomForWriters : Obligations.ReleaseMakesRoomForWriters := by
  refine ⟨?_, ?_, ?_, waitsForSlot_iff, fun s => ⟨roomReport_seq s, roomReport_prn s, ?_⟩, fun _ _ => rfl⟩
  · intro tag f s ha c
    have hrange : ¬ within 1 4294967295 f.number ↔ f.number < 1 ∨ 4294967295 < f.number := by omega
    split
    · next h => exact request_answers ha (if_pos (hrange.mpr h))
    · next h =>
      have h' : within 1 4294967295 f.number := not_not.mp fun hx => h (hrange.mp hx)
      split
      · next hn => exact request_answers ha ((if_neg (not_not.mpr h')).trans (if_pos hn))
      · next hn => exact request_answers ha (answerJournalRelease_inRange h' hn)
  · exact fun st s => rfl
  · exact fun s => rfl
  · obtain ⟨q, p, h⟩ := roomReport_eq s
    rw [h]

end Sys2Proof.Machine
end

section
/-! SUPPORT. The requests at a station, placement, and the beginning of an entry (R20, R21, R31 to R34, R41, R46, R80). -/

namespace Sys2Proof.Machine

variable {s : State} {st : Station}

/-! ### STATION_SET and INPUT_TAKE (R21, R32) -/

theorem atStation_some {n : Nat} (h : stationOf? n = some st) (owner : Station → State → Answer) :
    atStation n s owner = owner st s := by
  simp only [atStation, h]

theorem atStation_none {n : Nat} (h : stationOf? n = none) (owner : Station → State → Answer) :
    atStation n s owner = refuse s .badField := by
  simp only [atStation, h]

/-- The back type disagrees with the roll in the back (R21 condition 3). -/
theorem backAgrees_eq_false (b : BackType) :
    s.backAgrees st b = false ↔ (s.rollAt st).any (fun r => r.back != b) = true := by
  unfold State.backAgrees
  cases s.rollAt st with
  | none => simp
  | some r => simp

theorem answerStationSet_eq {f : StationSetReq} (h : stationOf? f.station = some st) : answerStationSet f s =
    if ¬ settingsInRange f.settings then refuse s .badField
    else if (s.seq st).mode ≠ .unloaded ∧ (s.seq st).mode ≠ .ready then refuse s .busy
    else if (s.seq st).mode = .ready ∧ (s.rollAt st).any (fun r => r.back != f.settings.back) then refuse s .busy
    else taken (s.modSeq st fun q => { q with settings := f.settings }) := by
  simp only [answerStationSet, atStation_some h, backAgrees_eq_false]

/-- Settles O20, condition by condition. -/
theorem stationSetAndInputTake : Obligations.StationSetAndInputTake := by
  intro tag f s ha c i
  split
  · next hn => exact ⟨request_answers ha (atStation_none hn _), request_answers ha (atStation_none hn _)⟩
  · next st hn =>
    have hset := answerStationSet_eq (s := s.asked) hn
    refine ⟨?_, request_answers ha (atStation_some hn _)⟩
    split
    · next h => exact request_answers ha (hset.trans (if_pos h))
    · next h =>
      split
      · next hm => exact request_answers ha (hset.trans ((if_neg h).trans (if_pos hm)))
      · next hm =>
        split
        · next hb => exact request_answers ha (hset.trans ((if_neg h).trans ((if_neg hm).trans (if_pos hb))))
        · next hb => exact request_answers ha (hset.trans ((if_neg h).trans ((if_neg hm).trans (if_neg hb))))

/-! ### Placement (R31, R32) -/

/-- What an event leads to, from what it does in the state in which it finds the part. -/
theorem event_does {f : State → State} {u : State} (h : f s.begun = u) : event f s = .next u.transmit := by
  rw [event_eq, h]

/-- Settles O21, by the station's state and the edge. -/
theorem placementInAnnouncedAlone : Obligations.PlacementInAnnouncedAlone := by
  intro tag n st e s hn c
  refine ⟨fun ha => ?_, ?_⟩
  · split
    · next hm => exact request_answers ha ((atStation_some hn _).trans (if_pos hm))
    · next hm => exact request_answers ha ((atStation_some hn _).trans (if_neg hm))
  · split
    · next h =>
      split
      · next hm => exact event_does ((if_pos h).trans (if_pos hm))
      · next hm => exact event_does ((if_pos h).trans (if_neg hm))
    · next h => exact event_does (if_neg h)

/-! ### The slot of an entry, its plan and its request (R33, R34, R41, R46, R80) -/

/-- Settles O22: with an item context the entry's two conditions decide. -/
theorem entryNeedsJournalSlot : Obligations.EntryNeedsJournalSlot := by
  intro st s c hc
  simp only [State.beginEntry, hc]
  rfl

theorem stationPlan_some {c : ItemContext} {o : Order} {i : Item} {e : Entry} {r : Roll} {v : Int}
    (hc : (s.seq st).context = some c) (ho : s.order? c.order = some o) (hi : o.item? c.item = some i)
    (he : c.entries[c.nextIndex - 1]? = some e) (hr : s.rollAt st = some r) (hv : s.speed? r.stock = some v) :
    s.stationPlan st = some (shotPlan (stationInputs (s.seq st).settings v i.filter i.offset e.offset)) := by
  simp [State.stationPlan, hc, ho, hi, he, hr, hv]

/-- Settles O23: the plan is the one of the station's inputs, and the request follows the generator's state. -/
theorem claimPlacesPlannedRequest : Obligations.ClaimPlacesPlannedRequest := by
  refine ⟨?_, ?_, fun _ _ _ _ => rfl⟩
  · intro early st s c o i e r v hc ho hi he hr hv
    simp only [State.claim, stationPlan_some hc ho hi he hr hv]
    simp only [hc, ho]
    rfl
  · intro st s c hc
    simp only [State.earlyRequest, hc, ItemContext.entriesLeft, decide_eq_true_eq]
    rfl

end Sys2Proof.Machine
end

section
/-! SUPPORT. The planned frame list of an item (R25). -/

namespace Sys2Proof.Machine

/-- The offsets of the bracket entries in the order of the pattern (R25). -/
def bracketOffsets (b : Bracket) : List Int :=
  match b.sequence with
  | .centreFirst => centreFirstOffsets b.count b.step
  | .ascending => ascendingOffsets b.count b.step

theorem plannedFrames_eq (b : Bracket) (copies : Nat) : plannedFrames b copies =
    (bracketOffsets b).map bracketEntry ++ List.replicate (copies - 1) { offset := 0, kind := .copy } := rfl

theorem bracketOffsets_length (b : Bracket) : (bracketOffsets b).length = b.count := by
  unfold bracketOffsets
  split <;> simp [centreFirstOffsets, ascendingOffsets]

/-- Of the offsets of a bracket exactly one is 0, and each is a multiple of the step within ±36. -/
def OneCentre (step : Nat) (offsets : List Int) : Prop :=
  offsets.filter (fun z => z = 0) = [0] ∧ ∀ z ∈ offsets, -36 ≤ z ∧ z ≤ 36 ∧ z % step = 0

theorem centreFirstOffsets_oneCentre : ∀ n ∈ [1, 3, 5, 7], ∀ step ∈ [3, 4, 6, 12],
    OneCentre step (centreFirstOffsets n step) := by
  unfold OneCentre
  decide

theorem ascendingOffsets_oneCentre : ∀ n ∈ [1, 3, 5, 7], ∀ step ∈ [3, 4, 6, 12],
    OneCentre step (ascendingOffsets n step) := by
  unfold OneCentre
  decide

theorem bracketOffsets_oneCentre {b : Bracket} (hn : b.count ∈ [1, 3, 5, 7]) (hs : b.step ∈ [3, 4, 6, 12]) :
    OneCentre b.step (bracketOffsets b) := by
  unfold bracketOffsets
  split
  · exact centreFirstOffsets_oneCentre _ hn _ hs
  · exact ascendingOffsets_oneCentre _ hn _ hs

/-- A bracket entry is a CENTRE where its offset is 0. -/
theorem bracketEntry_centre (z : Int) : (bracketEntry z).kind = .centre ↔ z = 0 := by
  unfold bracketEntry
  by_cases h : z = 0 <;> simp [h]

theorem filter_bracketEntry (offsets : List Int) :
    (offsets.map bracketEntry).filter (fun e => e.kind = .centre) = (offsets.filter fun z => z = 0).map bracketEntry := by
  rw [List.filter_map]
  congr 2
  funext z
  exact decide_eq_decide.mpr (bracketEntry_centre z)

/-- Settles O31: the bracket entries by their offsets, and the copies behind them. -/
theorem plannedListHasOneCentre : Obligations.PlannedListHasOneCentre := by
  intro b copies hn hs hc es
  have hcopies : 1 ≤ copies := by
    revert hc
    simp only [List.mem_cons, List.not_mem_nil, or_false]
    omega
  have hlen : ((bracketOffsets b).map bracketEntry).length = b.count := by
    rw [List.length_map, bracketOffsets_length]
  obtain ⟨hcentre, hoffsets⟩ := bracketOffsets_oneCentre hn hs
  have hes : es = (bracketOffsets b).map bracketEntry ++
    List.replicate (copies - 1) { offset := 0, kind := .copy } := plannedFrames_eq b copies
  rw [hes]
  refine ⟨?_, ?_, List.drop_left' hlen, ?_, ?_⟩
  · rw [List.length_append, hlen, List.length_replicate]
    omega
  · rw [List.filter_append, filter_bracketEntry, hcentre]
    simp [bracketEntry]
  · rw [List.take_left' hlen, List.map_map]
    exact List.map_id _
  · intro e he
    rcases List.mem_append.mp he with he | he
    · obtain ⟨z, hz, rfl⟩ := List.mem_map.mp he
      exact hoffsets z hz
    · rw [List.eq_of_mem_replicate he]
      simp

end Sys2Proof.Machine
end

section
/-! SUPPORT. Settling an item: what it changes of the station and of the other blocks, and what it leaves (R26, R128). -/

namespace Sys2Proof.Machine

/-! ### What settling leaves of a sequencer -/

section

variable {s t : State} {st : Station} {c : ItemContext}

theorem exists_context_of_ungranted (h : t.ungranted = s.ungranted) {x : Station} (hc : (s.seq x).context = some c) :
    ∃ c', (t.seq x).context = some c' ∧ c'.ungranted = c.ungranted := by
  have hmap := context_of_ungranted h x
  rw [hc, Option.map_some] at hmap
  exact Option.map_eq_some_iff.mp hmap

/-- What the request and the pops fired do not touch is the same in contexts that agree but for them. -/
theorem contextField_of_ungranted {α : Type} (g : ItemContext → α) (hg : ∀ c, g c.ungranted = g c) {c' : ItemContext}
    (h : c'.ungranted = c.ungranted) : g c' = g c := by
  rw [← hg c', ← hg c, h]

theorem handBackSlot_seq_keeps {α : Type} (g : Sequencer → α) (hg : ∀ q b, g { q with roomReport := b } = g q)
    (s : State) (x : Station) : g (s.handBackSlot.seq x) = g (s.seq x) := by
  rw [State.handBackSlot, roomReport_seq]
  split
  · exact hg ..
  · rfl

theorem dropSlot_seq_keeps {α : Type} (g : Sequencer → α)
    (hg : ∀ q c b, g { q with context := c, roomReport := b } = g q) (s : State) (st x : Station) :
    g ((s.dropSlot st).seq x) = g (s.seq x) := by
  unfold State.dropSlot
  split
  · rfl
  · split
    · rw [handBackSlot_seq_keeps g fun q b => hg q q.context b]
      exact modSeq_keeps g (hg _ _ (s.seq st).roomReport) x
    · rfl

theorem dropContext_seq_keeps {α : Type} (g : Sequencer → α) (hg : ∀ q c, g { q with context := c } = g q)
    (s : State) (st x : Station) : g ((s.dropContext st).seq x) = g (s.seq x) := by
  unfold State.dropContext
  split
  · rfl
  · exact modSeq_keeps g (hg ..) x

/-- Settling changes of a sequencer the item context, the pop awaited and the flag of a room report alone. -/
theorem settle_seq_keeps {α : Type} (g : Sequencer → α)
    (hg : ∀ q c w b, g { q with context := c, popWait := w, roomReport := b } = g q) (s : State) (st x : Station) :
    g ((s.settle st).seq x) = g (s.seq x) := by
  rw [State.settle, dropContext_seq_keeps g fun q c => hg q c q.popWait q.roomReport,
    dropSlot_seq_keeps g fun q c b => hg q c q.popWait b]
  exact seq_of_ungranted g (fun q => hg q _ _ q.roomReport) (s.dropClaim_ungranted st) x

@[simp] theorem settle_mode (s : State) (st x : Station) : ((s.settle st).seq x).mode = (s.seq x).mode :=
  settle_seq_keeps Sequencer.mode (fun _ _ _ _ => rfl) s st x

@[simp] theorem settle_current (s : State) (st x : Station) : ((s.settle st).seq x).current = (s.seq x).current :=
  settle_seq_keeps Sequencer.current (fun _ _ _ _ => rfl) s st x

@[simp] theorem leaveOrder_mode (s : State) (st x : Station) : ((s.leaveOrder st).seq x).mode = (s.seq x).mode := by
  rw [State.leaveOrder, State.clearCurrent, modSeq_keeps Sequencer.mode rfl, settle_mode]

/-! ### The item context and its slot -/

theorem dropContext_context (s : State) (st : Station) : ((s.dropContext st).seq st).context = none := by
  unfold State.dropContext
  split
  · assumption
  · rw [State.modSeq_seq_same]

theorem settle_context (s : State) (st : Station) : ((s.settle st).seq st).context = none := dropContext_context ..

theorem dropClaim_none (h : (s.seq st).context = none) : s.dropClaim st = s := by simp only [State.dropClaim, h]

theorem dropSlot_none (h : (s.seq st).context = none) : s.dropSlot st = s := by simp only [State.dropSlot, h]

theorem dropContext_none (h : (s.seq st).context = none) : s.dropContext st = s := by simp only [State.dropContext, h]

theorem settle_none (h : (s.seq st).context = none) : s.settle st = s := by
  rw [State.settle, dropClaim_none h, dropSlot_none h, dropContext_none h]

theorem dropClaim_unclaimed (hc : (s.seq st).context = some c) (h : c.request = .none) : s.dropClaim st = s := by
  simp only [State.dropClaim, hc, h]

theorem dropClaim_waiting (hc : (s.seq st).context = some c) (h : c.request = .waiting) :
    s.dropClaim st = (s.modContext st fun c => { c with request := .none }).withdraw st := by
  simp only [State.dropClaim, hc, h]

theorem dropClaim_granted (hc : (s.seq st).context = some c) (h : c.request = .granted) :
    s.dropClaim st = if (s.seq st).popWait = .none then
        (s.modContext st fun c => { c with request := .none }).releaseGrant st
      else (s.modContext st fun c => { c with request := .none }).modSeq st fun q => { q with popWait := .discard } := by
  simp only [State.dropClaim, hc, h]

theorem dropSlot_some (hc : (s.seq st).context = some c) : s.dropSlot st =
    if c.slotHeld then (s.modContext st fun c => { c with slotHeld := false }).handBackSlot else s := by
  simp only [State.dropSlot, hc]

theorem dropSlot_context (hc : (s.seq st).context = some c) :
    ((s.dropSlot st).seq st).context = some { c with slotHeld := false } := by
  rw [dropSlot_some hc]
  split
  · rw [handBackSlot_seq_keeps Sequencer.context fun _ _ => rfl, State.modContext, State.modSeq_seq_same, hc]
    rfl
  · next h =>
    rw [hc, ← Bool.eq_false_of_not_eq_true h]

theorem dropSlot_jnl (hc : (s.seq st).context = some c) : (s.dropSlot st).jnl =
    { s.jnl with reserved := if c.slotHeld then s.jnl.reserved - 1 else s.jnl.reserved } := by
  rw [dropSlot_some hc]
  split
  · simp [State.handBackSlot]
  · rfl

theorem dropContext_some (hc : (s.seq st).context = some c) : s.dropContext st =
    ((s.releaseMoney c.account c.remaining).returnRecords c.records).modSeq st fun q => { q with context := none } := by
  simp only [State.dropContext, hc]

/-- The claim and the slot given up, settling returns the reservations of the item as they stood. -/
theorem settle_some (hc : (s.seq st).context = some c) : s.settle st =
    ((((s.dropClaim st).dropSlot st).releaseMoney c.account c.remaining).returnRecords c.records).modSeq st
      fun q => { q with context := none } := by
  obtain ⟨c', hc', hsame⟩ := exists_context_of_ungranted (s.dropClaim_ungranted st) hc
  have haccount : c'.account = c.account := contextField_of_ungranted ItemContext.account (fun _ => rfl) hsame
  have hremaining : c'.remaining = c.remaining := contextField_of_ungranted ItemContext.remaining (fun _ => rfl) hsame
  have hrecords : c'.records = c.records := contextField_of_ungranted ItemContext.records (fun _ => rfl) hsame
  rw [State.settle, dropContext_some (dropSlot_context hc'), haccount, hremaining, hrecords]

theorem settle_acc (hc : (s.seq st).context = some c) : (s.settle st).acc = (s.releaseMoney c.account c.remaining).acc := by
  rw [settle_some hc]
  simp [State.releaseMoney, State.modAccount]

theorem settle_rol (hc : (s.seq st).context = some c) : (s.settle st).rol = (s.returnRecords c.records).rol := by
  rw [settle_some hc]
  simp [State.returnRecords]

theorem settle_jnl (hc : (s.seq st).context = some c) : (s.settle st).jnl =
    { s.jnl with reserved := if c.slotHeld then s.jnl.reserved - 1 else s.jnl.reserved } := by
  obtain ⟨c', hc', hsame⟩ := exists_context_of_ungranted (s.dropClaim_ungranted st) hc
  have hslot : c'.slotHeld = c.slotHeld := contextField_of_ungranted ItemContext.slotHeld (fun _ => rfl) hsame
  rw [State.settle, State.dropContext_jnl, dropSlot_jnl hc', hslot, State.dropClaim_jnl]

theorem settle_gen (s : State) (st : Station) : (s.settle st).gen = (s.dropClaim st).gen := by simp [State.settle]

/-- A grant with a pop outstanding is kept until that pop is reported. -/
theorem settle_popWait (hc : (s.seq st).context = some c) (hr : c.request = .granted)
    (hw : (s.seq st).popWait ≠ .none) : ((s.settle st).seq st).popWait = .discard := by
  rw [State.settle, dropContext_seq_keeps Sequencer.popWait fun _ _ => rfl,
    dropSlot_seq_keeps Sequencer.popWait fun _ _ _ => rfl, dropClaim_granted hc hr, if_neg hw, State.modSeq_seq_same]

end

/-- Settles O24: the claim by the state of the request, and the reservations as they stood. -/
theorem settleReturnsReservations : Obligations.SettleReturnsReservations := by
  refine ⟨fun st s c hc => ?_, fun st s => settle_none, fun st s c hc => ⟨?_, dropSlot_some hc⟩⟩
  · refine ⟨settle_context s st, settle_acc hc, settle_rol hc, settle_jnl hc, by simp [State.settle], by simp, by simp,
      by simp, by simp, by simp, ?_, settle_popWait hc⟩
    rw [settle_gen]
    split
    · next hr => rw [dropClaim_unclaimed hc hr]
    · next hr => rw [dropClaim_waiting hc hr]
    · next hr =>
      rw [dropClaim_granted hc hr]
      split <;> rfl
  · split
    · next hr => exact dropClaim_unclaimed hc hr
    · next hr => exact dropClaim_waiting hc hr
    · next hr => exact dropClaim_granted hc hr

end Sys2Proof.Machine
end

section
/-! SUPPORT. The grant test, the pops asked, the requests listed, and the outcome of a fire (R26, R35, R39, R40, R44, R73,
R76 to R78, R80, R83). -/

namespace Sys2Proof.Machine

section

variable {s : State} {st : Station} {c : ItemContext}

/-! ### Two changes of one sequencer -/

/-- An update of a sequencer that is known is the one that gives the same sequencer. -/
theorem modSeq_congr {f g : Sequencer → Sequencer} (h : f (s.seq st) = g (s.seq st)) : s.modSeq st f = s.modSeq st g := by
  cases st <;> simp only [State.modSeq, PerStation.modify] <;> congr 2

theorem modSeq_modSeq (f g : Sequencer → Sequencer) : (s.modSeq st f).modSeq st g = s.modSeq st fun q => g (f q) := by
  cases st <;> rfl

theorem modContext_some (hc : (s.seq st).context = some c) (f : ItemContext → ItemContext) :
    s.modContext st f = s.modSeq st fun q => { q with context := some (f c) } :=
  modSeq_congr (by rw [hc]; rfl)

theorem modContext_congr {f g : ItemContext → ItemContext} (hc : (s.seq st).context = some c) (h : f c = g c) :
    s.modContext st f = s.modContext st g := by
  rw [modContext_some hc, modContext_some hc, h]

/-! ### The grant test (R83) -/

theorem testChosen_some {r : GenRequest} (hst : s.gen.chosen = some st) (hr : s.gen.request? st = some r) :
    s.testChosen = if s.gen.heat + r.energy ≤ Config.maxHeat then
        (s.modGen fun g =>
          { g with requests := g.requests.filter fun q => !(q.station == st)
                   chosen := none
                   holder := some { station := st, given := 0, pending := none }
                   lastGrant := (g.lastGrant.filter fun x => !(x == st)) ++ [st]
                   idleTimer := some Config.idleTimeout }).granted st
      else s := by
  simp only [State.testChosen, hst, hr]

theorem choose_of_notReady (h : s.gen.mode ≠ .ready) : s.choose = s := if_neg fun hg => h hg.1

/-! ### A pop asked (R35, R76) -/

theorem askPop_planned {p : CurrentPlan} (hc : (s.seq st).context = some c) (hp : c.plan = some p) :
    s.askPop st = (s.modSeq st fun q =>
      { q with popWait := .act, context := some { c with plan := some { p with fired := p.fired + 1 } } }).askFire st
        p.plan.level := by
  simp only [State.askPop, hc, hp]
  rw [modContext_some hc, modSeq_modSeq, hp]
  rfl

theorem askFire_ready {h : Holder} (hh : s.gen.holder = some h) (hst : h.station = st) (hm : s.gen.mode = .ready)
    (p : Nat) : s.askFire st p = s.giveFire p := by
  simp only [State.askFire, hh, if_pos hst, hm]

theorem askFire_charging {h : Holder} (hh : s.gen.holder = some h) (hst : h.station = st) (hm : s.gen.mode = .charging)
    (p : Nat) : s.askFire st p = s.modGen fun g => { g with holder := some { h with pending := some p } } := by
  simp only [State.askFire, State.modGen, hh, if_pos hst, hm, Option.map_some]

theorem giveFire_held {h : Holder} (hh : s.gen.holder = some h) (p : Nat) : s.giveFire p =
    { s with
      gen := { s.gen with mode := .firing, output := .level p, windowTimer := some 20
                          holder := some { h with given := h.given + 1, pending := none } }
      outputs := s.outputs ++ [.fire p] } := by
  simp only [State.giveFire, State.modGen, hh]
  rfl

/-! ### A request listed (R73, R80, R83) -/

theorem listRequest_off (hm : s.gen.mode = .off) (r : GenRequest) : s.listRequest r =
    (s.modGen fun g =>
      { ({ g with output := .level 0, requests := g.requests ++ [r] }).chargeOrReady with
        idleTimer := some Config.idleTimeout }).raiseGen.choose := by
  simp only [State.listRequest, hm]

theorem listRequest_listed (hm : s.gen.mode = .charging ∨ s.gen.mode = .firing) (r : GenRequest) :
    s.listRequest r = s.modGen fun g => { g with requests := g.requests ++ [r] } := by
  rcases hm with hm | hm <;> simp only [State.listRequest, hm]

theorem request?_append {g : Gen} {q : GenRequest} (h : g.request? st = some q) (r : GenRequest) :
    ({ g with requests := g.requests ++ [r] } : Gen).request? st = some q := by
  rw [Gen.request?, List.find?_append, ← Gen.request?, h]
  rfl

theorem listRequest_ready_unchosen (hm : s.gen.mode = .ready) (hn : s.gen.chosen = none) (r : GenRequest) :
    s.listRequest r = (s.modGen fun g => { g with requests := g.requests ++ [r] }).choose := by
  simp only [State.listRequest, State.modGen, hm, hn]

theorem listRequest_ready_chosen {q : GenRequest} (hm : s.gen.mode = .ready) (hst : s.gen.chosen = some st)
    (hq : s.gen.request? st = some q) (r : GenRequest) :
    let listed := s.modGen fun g => { g with requests := g.requests ++ [r] }
    s.listRequest r =
      if q.cls < r.cls then (listed.modGen fun g => { g with chosen := some r.station }).testChosen else listed := by
  have hchosen : (s.modGen fun g => { g with requests := g.requests ++ [r] }).gen.chosen = some st := hst
  have hlisted : (s.modGen fun g => { g with requests := g.requests ++ [r] }).gen.request? st = some q :=
    request?_append hq r
  simp only [State.listRequest, hm, hchosen, hlisted]

end

/-- Settles O38: the grant test, the station's hearing of it, the pop asked, and a request by the generator's state. -/
theorem grantTestsHeat : Obligations.GrantTestsHeat := by
  refine ⟨fun s st r => testChosen_some, fun st s => ?_, fun st s c p h hc hp hh hst => ?_,
    fun r s => ⟨fun hm => ⟨fun hr => ?_, fun hr => ?_⟩, fun hm => listRequest_listed hm r,
      fun hm hn => listRequest_ready_unchosen hm hn r,
      fun st q hm hst hq => listRequest_ready_chosen hm hst hq r⟩⟩
  · have hmode : ((s.modContext st fun c => { c with request := .granted }).seq st).mode = (s.seq st).mode :=
      modSeq_keeps Sequencer.mode rfl st
    simp only [State.granted, hmode]
  · intro u
    have hask : s.askPop st = u.askFire st p.plan.level := askPop_planned hc hp
    refine ⟨fun hm => ?_, fun hm => ?_⟩
    · rw [hask, askFire_ready (s := u) hh hst hm, giveFire_held (s := u) hh]
      rfl
    · rw [hask, askFire_charging (s := u) hh hst hm]
      rfl
  · simp only [listRequest_off hm, State.modGen, Gen.chargeOrReady, hr]
    rfl
  · rw [listRequest_off hm, choose_of_notReady]
    · simp only [State.modGen, Gen.chargeOrReady, hr]
      rfl
    · simp [State.raiseGen, State.modGen, Gen.chargeOrReady, hr]

/-! ### The outcome of a fire -/

section

variable {s : State} {st : Station} {c : ItemContext}

/-- The generator after a fire: READY or CHARGING by the ready input, the record of the fires given as it was. -/
theorem chargeOrReady_holder (g : Gen) : g.chargeOrReady.holder = g.holder := by
  unfold Gen.chargeOrReady
  split <;> rfl

theorem afterFiring_held {h : Holder} (hh : s.gen.holder = some h) (act : Station → State → State) :
    s.afterFiring act = s.popReport h.station (act h.station) := by
  simp only [State.afterFiring, hh]

theorem modGen_chargeOrReady_holder {h : Holder} (f : Gen → Gen) (hh : (f s.gen).holder = some h) :
    (s.modGen fun g => (f g).chargeOrReady).gen.holder = some h :=
  (chargeOrReady_holder _).trans hh

theorem flashReported_firing {h : Holder} {p : Nat} (hm : s.gen.mode = .firing) (hh : s.gen.holder = some h)
    (hp : s.gen.output = .level p) : s.flashReported =
    (s.modGen fun g => ({ g with heat := g.heat + popEnergy p, windowTimer := none, idleTimer := some Config.idleTimeout }
      ).chargeOrReady).popReport h.station (State.confirmPop h.station) := by
  have hheat : s.gen.firedEnergy = popEnergy p := by simp only [Gen.firedEnergy, hp]
  rw [State.flashReported, if_pos hm, afterFiring_held (modGen_chargeOrReady_holder
    (fun g => { g with heat := g.heat + g.firedEnergy, windowTimer := none, idleTimer := some Config.idleTimeout }) hh)]
  simp only [State.modGen, hheat]

theorem windowExpired_firing {h : Holder} (hm : s.gen.mode = .firing) (hh : s.gen.holder = some h)
    (hw : s.gen.windowTimer ≠ none) : s.windowExpired =
    (s.modGen fun g => ({ g with windowTimer := none }).chargeOrReady).popReport h.station (State.misfire h.station) := by
  rw [State.windowExpired, if_pos ⟨hm, Option.isSome_iff_ne_none.mpr hw⟩,
    afterFiring_held (modGen_chargeOrReady_holder (fun g => { g with windowTimer := none }) hh)]

theorem confirmPop_planned {p : CurrentPlan} (hc : (s.seq st).context = some c) (hp : c.plan = some p) :
    let u := s.modContext st fun c => { c with plan := some { p with confirmed := p.confirmed + 1 } }
    s.confirmPop st = if p.confirmed + 1 < p.plan.pops then u.askPop st else u.completeEntry st := by
  intro u
  have hu : (s.modContext st fun c => { c with plan := c.plan.map fun p => { p with confirmed := p.confirmed + 1 } }) = u :=
    modContext_congr hc (by rw [hp]; rfl)
  have hplan : (u.seq st).context.bind ItemContext.plan = some { p with confirmed := p.confirmed + 1 } := by
    rw [show u = _ from modContext_some hc _, State.modSeq_seq_same]
    rfl
  simp only [State.confirmPop, hu, hplan]

theorem misfire_first {r : Roll} (hc : (s.seq st).context = some c) (hr : s.rollAt st = some r) (h : c.retake = 0) :
    s.misfire st = ((((s.endGrant st).recordShot st .spoiled).dropSlot st).modContext st
      fun c => { c with retake := 1 }).advance true st := by
  simp [State.misfire, hc, hr, h]

theorem misfire_repeated {r : Roll} (hc : (s.seq st).context = some c) (hr : s.rollAt st = some r) (h : 1 ≤ c.retake) :
    s.misfire st = (((((s.capture (stationUnit st) { bareCapture (.station .misfireRepeat) with
      order := some c.order, item := some c.item, roll := some r.number, frame := some r.next }).endGrant st).recordShot st
        .spoiled).dropSlot st).modSeq st fun q => { q with repeatMisfire := true }).advance false st := by
  simp [State.misfire, hc, hr, h]

end

/-- Settles O35: the generator's side of a fire, the pop the station waits for, and what it makes of each outcome. -/
theorem firingEndsInPopOrMisfire : Obligations.FiringEndsInPopOrMisfire := by
  refine ⟨fun s => ⟨fun hm => ⟨event_does (if_neg hm), event_does (if_neg fun h => hm h.1)⟩,
      fun h p hm hh hp hw => ⟨event_does ?_, event_does ?_⟩⟩, fun st act s => ?_,
    fun st s c p => confirmPop_planned, fun st s c r hc hr => ⟨misfire_first hc hr, misfire_repeated hc hr⟩⟩
  · exact flashReported_firing (s := s.begun) hm hh hp
  · exact windowExpired_firing (s := s.begun) hm hh hw
  · cases hw : (s.seq st).popWait <;> simp only [State.popReport, State.endGrant, hw]

end Sys2Proof.Machine
end

section
/-! SUPPORT. The generator in FAULT, with no grant and nothing listed: no act of a station changes it (R46, R80, R87). -/

namespace Sys2Proof.Machine

/-- The generator as it stands on entering FAULT: no request, none chosen, no grant. -/
structure Gen.Silenced (g : Gen) : Prop where
  mode : g.mode = .fault
  requests : g.requests = []
  chosen : g.chosen = none
  holder : g.holder = none

theorem genToFault_silenced (s : State) : s.genToFault.gen.Silenced := by
  rw [State.genToFault_gen]
  exact ⟨rfl, rfl, rfl, rfl⟩

section

variable {s : State} (h : s.gen.Silenced)
include h

/-! ### The generator's own operations -/

theorem choose_silenced : s.choose = s := choose_of_notReady (by simp [h.mode])

@[simp] theorem releaseGrant_silenced (st : Station) : s.releaseGrant st = s := by
  simp only [State.releaseGrant, h.holder]

@[simp] theorem withdraw_silenced (st : Station) : s.withdraw st = s := by
  have hsame : (s.modGen fun g =>
      { g with requests := g.requests.filter fun r => !(r.station == st)
               chosen := if g.chosen = some st then none else g.chosen }) = s := by
    simp [State.modGen, h.requests, h.chosen]
    simp [← h.requests, ← h.chosen]
  rw [State.withdraw, hsame, choose_silenced h]

/-! ### A station that settles, goes to FAULT or takes the roll's end -/

@[simp] theorem dropClaim_silenced (st : Station) : (s.dropClaim st).gen = s.gen := by
  simp only [State.dropClaim]
  split
  · rfl
  · split
    · rfl
    · rw [withdraw_silenced (s := s.modContext st _) h]
      rfl
    · split
      · rw [releaseGrant_silenced (s := s.modContext st _) h]
        rfl
      · rfl

@[simp] theorem settle_silenced (st : Station) : (s.settle st).gen = s.gen := by rw [settle_gen, dropClaim_silenced h]

@[simp] theorem leaveOrder_silenced (st : Station) : (s.leaveOrder st).gen = s.gen := by simp [State.leaveOrder, h]

@[simp] theorem endItemFirst_silenced (st : Station) : (s.endItemFirst st).gen = s.gen := by
  simp only [State.endItemFirst]
  split
  · split
    · rfl
    · split <;> simp [h]
  · rfl

@[simp] theorem takeRollEnd_silenced (st : Station) : (s.takeRollEnd st).gen = s.gen := by
  simp only [State.takeRollEnd]
  split
  · split <;> simp [h]
  · simp [h]

@[simp] theorem enterFault_silenced (st : Station) (cause : StationFault) (unfinished : Bool) :
    (s.enterFault st cause unfinished).gen = s.gen := by simp [State.enterFault, h]

@[simp] theorem filmEnd_silenced (st : Station) : (s.filmEnd st).gen = s.gen := by
  simp only [State.filmEnd]
  split
  · split <;> simp [h]
  · split <;> simp [h]
  · simp [h]

@[simp] theorem filmEndIfSeen_silenced (st : Station) : (s.filmEndIfSeen st).gen = s.gen := by
  unfold State.filmEndIfSeen
  split <;> simp [h]

/-! ### Dispatch -/

@[simp] theorem tryAnnounce_silenced (st : Station) (o : Order) (i : Item) : (s.tryAnnounce st o i).gen = s.gen := by
  simp only [State.tryAnnounce]
  split
  · rfl
  · split
    · exact takeRollEnd_silenced (by exact h) st
    · (repeat' split) <;> simp

@[simp] theorem advanceSeparator_silenced (st : Station) (o : Order) : (s.advanceSeparator st o).gen = s.gen := by
  unfold State.advanceSeparator
  split
  · rfl
  · split
    · exact takeRollEnd_silenced (by exact h) st
    · split
      · simp
      · rw [filmEndIfSeen_silenced] <;> simp [h]

end

@[simp] theorem recordShot_gen (s : State) (st : Station) (kind : FrameKind) : (s.recordShot st kind).gen = s.gen := by
  unfold State.recordShot
  split <;> simp

/-- A run that leaves a generator in FAULT alone. -/
def KeepsSilence (f : State → State) : Prop := ∀ s : State, s.gen.Silenced → (f s).gen = s.gen

theorem KeepsSilence.announceFrom {again : State → State} (ha : KeepsSilence again) (fuel : Nat) (st : Station) :
    KeepsSilence (announceFrom again fuel st) := by
  induction fuel with
  | zero => exact fun _ _ => rfl
  | succ fuel ih =>
    intro s h
    simp only [Machine.announceFrom]
    split
    · rfl
    · split
      · rw [ha] <;> simp [h]
      · split
        · rw [ih] <;> simp [h]
        · simp [h]

theorem KeepsSilence.takeOrder {again : State → State} (ha : KeepsSilence again) (st : Station) (o : Order) :
    KeepsSilence (State.takeOrder again st o) := by
  intro s h
  simp only [State.takeOrder]
  split
  · exact advanceSeparator_silenced (by exact h) st o
  · exact ha.announceFrom _ st _ h

theorem KeepsSilence.giveBack {again : State → State} (ha : KeepsSilence again) (st : Station) :
    KeepsSilence (State.giveBack again st) := by
  intro s h
  unfold State.giveBack
  split
  · split
    · exact ha.takeOrder st _ s h
    · rfl
  · rfl

theorem KeepsSilence.offer {again : State → State} (ha : KeepsSilence again) (st : Station) :
    KeepsSilence (State.offer again st) := by
  intro s h
  unfold State.offer
  split
  · split
    · exact ha.takeOrder st _ s h
    · rfl
  · rfl

theorem KeepsSilence.comp {f g : State → State} (hf : KeepsSilence f) (hg : KeepsSilence g) :
    KeepsSilence fun s => g (f s) := by
  intro s h
  have hfs := hf s h
  exact (hg _ (hfs ▸ h)).trans hfs

theorem KeepsSilence.dispatchRun {again : State → State} (ha : KeepsSilence again) : KeepsSilence (dispatchRun again) :=
  (((((ha.giveBack .a).comp (ha.giveBack .b)).comp (ha.giveBack .d)).comp (ha.offer .a)).comp (ha.offer .b)).comp
    (ha.offer .d)

theorem dispatchTo_keepsSilence (depth : Nat) : KeepsSilence (dispatchTo depth) := by
  induction depth with
  | zero => exact fun _ _ => rfl
  | succ depth ih => exact ih.dispatchRun

/-! ### What the stations do of a generator's fault (R44, R46) -/

section

variable {s : State} (h : s.gen.Silenced)
include h

@[simp] theorem dispatch_silenced : s.dispatch.gen = s.gen := dispatchTo_keepsSilence _ s h

@[simp] theorem becomeReady_silenced (st : Station) : (s.becomeReady st).gen = s.gen := by simp [State.becomeReady, h]

@[simp] theorem genFaultUnfired_silenced (st : Station) : (s.genFaultUnfired st).gen = s.gen := by
  simp only [State.genFaultUnfired]
  split <;> simp [h]

@[simp] theorem spoilAndLeave_silenced (st : Station) : (s.spoilAndLeave st).gen = s.gen := by
  rw [State.spoilAndLeave, State.advance, filmEndIfSeen_silenced] <;> simp [h]

@[simp] theorem genFaultHolder_silenced (st : Station) (given : Nat) : (s.genFaultHolder st given).gen = s.gen := by
  simp only [State.genFaultHolder]
  split
  · rfl
  · split
    · exact spoilAndLeave_silenced (by exact h) st
    · rw [becomeReady_silenced] <;> rw [leaveOrder_silenced (by exact h)]
      · rfl
      · exact h
  all_goals
    split
    · rw [spoilAndLeave_silenced] <;> simp [h]
    · exact genFaultUnfired_silenced (by exact h) st

theorem genFaultWaiting_silenced (listed : List GenRequest) (st : Station) :
    (s.genFaultWaiting listed st).gen = s.gen := by
  unfold State.genFaultWaiting
  split <;> simp [h]

end

/-- What the generator does on entering FAULT is all that becomes of it. -/
theorem enterGenFault_gen (s : State) : s.enterGenFault.gen = s.genToFault.gen := by
  have hholder : KeepsSilence fun t => match s.gen.holder with
      | some h => t.genFaultHolder h.station h.given
      | none => t := by
    intro t ht
    cases s.gen.holder with
    | none => rfl
    | some h => exact genFaultHolder_silenced ht ..
  have hwaiting (st : Station) : KeepsSilence (State.genFaultWaiting s.gen.requests st) :=
    fun t ht => genFaultWaiting_silenced ht ..
  exact (((hholder.comp (hwaiting .a)).comp (hwaiting .b)).comp (hwaiting .d)) _ (genToFault_silenced s)

/-! ### The charge timer and the stations that hear of the fault (R75, R87) -/

theorem genFaultWaiting_eq (listed : List GenRequest) (st : Station) (s : State) : s.genFaultWaiting listed st =
    if ∃ r ∈ listed, r.station = st then s.genFaultUnfired st else s := by
  simp only [State.genFaultWaiting, List.any_eq_true, beq_iff_eq]

theorem holdCurrent_seq (s : State) (st x : Station) (reason : HoldReason) :
    (s.holdCurrent st reason).seq x = s.seq x := by
  simp [State.seq]

/-- Settles O36: the expiry, its capture, the generator in FAULT, and what each station does. -/
theorem chargeTimeoutEntersFault : Obligations.ChargeTimeoutEntersFault := by
  refine ⟨fun s => event_does ?_, fun s => ?_, fun s => ?_, fun s => ?_, fun st given s => ?_, fun st s => ?_⟩
  · simp only [State.chargeTimedOut, Option.isSome_iff_ne_none]
    rfl
  · cases hh : s.gen.holder <;> simp only [State.chargeCapture, hh] <;> rfl
  · simp [enterGenFault_gen]
  · intro u told v waited
    simp only [State.enterGenFault, genFaultWaiting_eq]
    rfl
  · intro u v left
    have hcurrent : (v.seq st).current = (s.seq st).current := by
      exact (modSeq_keeps Sequencer.current rfl st).trans (modSeq_keeps Sequencer.current rfl st)
    have hgiven : 1 ≤ given ↔ ¬ given = 0 := Nat.one_le_iff_ne_zero
    cases hw : (s.seq st).popWait <;> simp only [State.genFaultHolder, hw, hgiven, ite_not]
    case spoil | discard => rfl
    all_goals
      rw [← hcurrent]
      rfl
  · intro held left
    have hmode : (((s.holdCurrent st .generator).leaveOrder st).seq st).mode = (s.seq st).mode := by
      rw [leaveOrder_mode, holdCurrent_seq]
    simp only [State.genFaultUnfired, hmode]
    rfl

end Sys2Proof.Machine
end

section
/-! SUPPORT. The roll's end: what the station gives up, and the roll in its back (R38, R47, R107). -/

namespace Sys2Proof.Machine

section

variable {s : State} {st : Station} {c : ItemContext} {r : Roll}

/-! ### The rolls, the frames and the journal through a station's settling -/

@[simp] theorem settle_rolls (s : State) (st : Station) : (s.settle st).rol.rolls = s.rol.rolls := by
  have h (t : State) : (t.dropContext st).rol.rolls = t.rol.rolls := by
    unfold State.dropContext
    split <;> rfl
  simp [State.settle, h]

@[simp] theorem settle_frames (s : State) (st : Station) : (s.settle st).rol.frames = s.rol.frames := by
  have h (t : State) : (t.dropContext st).rol.frames = t.rol.frames := by
    unfold State.dropContext
    split <;> rfl
  simp [State.settle, h]

@[simp] theorem leaveOrder_rolls (s : State) (st : Station) : (s.leaveOrder st).rol.rolls = s.rol.rolls := by
  simp [State.leaveOrder, State.clearCurrent]

@[simp] theorem leaveOrder_frames (s : State) (st : Station) : (s.leaveOrder st).rol.frames = s.rol.frames := by
  simp [State.leaveOrder, State.clearCurrent]

theorem rollAt_of_rolls {s t : State} (h : t.rol.rolls = s.rol.rolls) (st : Station) : t.rollAt st = s.rollAt st := by
  rw [State.rollAt, State.rollAt, h]

/-- An update that keeps what is looked for, whichever entries it is made at. -/
theorem find?_updateWhere_of_keeps {α : Type} {p q : α → Bool} {f : α → α} (hf : ∀ a, p (f a) = p a) (l : List α) :
    (updateWhere q f l).find? p = (l.find? p).map fun a => if q a then f a else a := by
  have hp : (p ∘ fun a => if q a then f a else a) = p := by
    funext a
    by_cases h : q a <;> simp [h, hf]
  rw [updateWhere, List.find?_map, hp]

theorem modRoll_rollAt (hr : s.rollAt st = some r) {f : Roll → Roll} (hf : ∀ x, (f x).station = x.station) :
    (s.modRoll r.number f).rollAt st = some (f r) := by
  rw [State.rollAt] at hr
  simp only [State.modRoll, State.modRol, State.rollAt]
  rw [find?_updateWhere_of_keeps (fun x => by rw [hf]), hr]
  simp

/-! ### What a station's change of state, and its leaving an order, keep of its sequencer -/

theorem setMode_seq (s : State) (st : Station) (m : Mode) (x : Station) :
    (s.setMode st m).seq x = (s.modSeq st fun q => { q with mode := m, roomReport := false }).seq x := by
  simp only [State.setMode]
  split
  · rfl
  · simp [State.seq]

@[simp] theorem setMode_mode (s : State) (st : Station) (m : Mode) : ((s.setMode st m).seq st).mode = m := by
  rw [setMode_seq, State.modSeq_seq_same]

@[simp] theorem setMode_context (s : State) (st : Station) (m : Mode) (x : Station) :
    ((s.setMode st m).seq x).context = (s.seq x).context := by
  rw [setMode_seq, modSeq_keeps Sequencer.context rfl]

@[simp] theorem setMode_current (s : State) (st : Station) (m : Mode) (x : Station) :
    ((s.setMode st m).seq x).current = (s.seq x).current := by
  rw [setMode_seq, modSeq_keeps Sequencer.current rfl]

@[simp] theorem leaveOrder_context (s : State) (st : Station) : ((s.leaveOrder st).seq st).context = none := by
  rw [State.leaveOrder, State.clearCurrent, State.modSeq_seq_same, settle_context]

@[simp] theorem leaveOrder_current (s : State) (st : Station) : ((s.leaveOrder st).seq st).current = none := by
  rw [State.leaveOrder, State.clearCurrent, State.modSeq_seq_same]

theorem holdCurrent_some {id : Nat} (h : (s.seq st).current = some id) (reason : HoldReason) :
    s.holdCurrent st reason = s.holdIfActive id reason := by
  simp only [State.holdCurrent, h]

theorem holdCurrent_none (h : (s.seq st).current = none) (reason : HoldReason) : s.holdCurrent st reason = s := by
  simp only [State.holdCurrent, h]

/-! ### An item in hand with no entry left (R38) -/

theorem endItemFirst_unspent (h : ∀ c, (s.seq st).context = some c → c.nextIndex ≤ c.entries.length) :
    s.endItemFirst st = s := by
  unfold State.endItemFirst
  split
  · next c hc => exact if_pos (decide_eq_true (h c hc))
  · rfl

theorem endItemFirst_spent (hc : (s.seq st).context = some c) (h : c.entries.length < c.nextIndex) :
    let ended := (s.endItem st c.order c.item .done).settle st
    s.endItemFirst st = if ended.itemsLeft c.order then ended else ended.orderDone st c.order := by
  have hspent : c.entriesLeft = false := decide_eq_false (Nat.not_le.mpr h)
  simp only [State.endItemFirst, hc, hspent, Bool.false_eq_true, if_false]

theorem endItemFirst_keeps {α : Type} (g : State → α) (hend : ∀ s id n e, g (State.endItem st id n e s) = g s)
    (hsettle : ∀ s, g (State.settle st s) = g s) (hdone : ∀ s id, g (State.orderDone st id s) = g s) (s : State) :
    g (s.endItemFirst st) = g s := by
  simp only [State.endItemFirst]
  split
  · split
    · rfl
    · split
      · rw [hsettle, hend]
      · rw [hdone, hsettle, hend]
  · rfl

@[simp] theorem endItemFirst_rolls (s : State) (st : Station) : (s.endItemFirst st).rol.rolls = s.rol.rolls :=
  endItemFirst_keeps (fun s => s.rol.rolls) (fun _ _ _ _ => by simp) (fun _ => by simp) (fun _ _ => by simp) s

@[simp] theorem endItemFirst_frames (s : State) (st : Station) : (s.endItemFirst st).rol.frames = s.rol.frames :=
  endItemFirst_keeps (fun s => s.rol.frames) (fun _ _ _ _ => by simp) (fun _ => by simp) (fun _ _ => by simp) s

end

/-! ### The roll's end taken (R47, R107) -/

/-- The station that has given up its item and its order at the roll's end, before the roll itself is taken in hand. -/
def State.endTaken (st : Station) (s : State) : State :=
  ((((s.endItemFirst st).holdCurrent st .rollEnd).leaveOrder st).modSeq st fun q =>
    { q with faultMemory := none, repeatMisfire := false }).setMode st .ending

section

variable {s : State} {st : Station} {r : Roll}

@[simp] theorem endTaken_rolls (s : State) (st : Station) : (s.endTaken st).rol.rolls = s.rol.rolls := by
  simp [State.endTaken]

@[simp] theorem endTaken_frames (s : State) (st : Station) : (s.endTaken st).rol.frames = s.rol.frames := by
  simp [State.endTaken]

@[simp] theorem endTaken_ord (s : State) (st : Station) :
    (s.endTaken st).ord = ((s.endItemFirst st).holdCurrent st .rollEnd).ord := by
  simp [State.endTaken]

@[simp] theorem endTaken_context (s : State) (st : Station) : ((s.endTaken st).seq st).context = none := by
  simp [State.endTaken]

@[simp] theorem endTaken_current (s : State) (st : Station) : ((s.endTaken st).seq st).current = none := by
  simp [State.endTaken]

@[simp] theorem endTaken_mode (s : State) (st : Station) : ((s.endTaken st).seq st).mode = .ending := by
  simp [State.endTaken]

theorem takeRollEnd_cassette (hr : s.rollAt st = some r) (hb : r.back = .cassette) : s.takeRollEnd st =
    ((s.endTaken st).modRoll r.number fun x => { x with state := .rewinding }).modDrive st Drive.startRewind := by
  have h : (s.endTaken st).rollAt st = some r := (rollAt_of_rolls (endTaken_rolls s st) st).trans hr
  rw [State.endTaken] at h ⊢
  simp only [State.takeRollEnd, h, hb]

theorem takeRollEnd_bulk (hr : s.rollAt st = some r) (hb : r.back = .bulk) :
    s.takeRollEnd st = ((s.endTaken st).rollFull r st).setMode st .awaitUnload := by
  have h : (s.endTaken st).rollAt st = some r := (rollAt_of_rolls (endTaken_rolls s st) st).trans hr
  rw [State.endTaken] at h ⊢
  simp only [State.takeRollEnd, h, hb]

theorem rollFull_rollAt (hr : s.rollAt st = some r) (x : Station) :
    (s.rollFull r x).rollAt st = some { r with state := .full } :=
  modRoll_rollAt hr fun _ => rfl

/-- What holds of the station that has given up its item and order holds once its roll is in hand. -/
theorem takeRollEnd_keeps {α : Type} (g : State → α) (hr : s.rollAt st = some r)
    (hroll : ∀ t n f, g (State.modRoll n f t) = g t) (hdrive : ∀ t f, g (State.modDrive st f t) = g t)
    (hfull : ∀ t r, g (State.rollFull r st t) = g t) (hmode : ∀ t, g (State.setMode st .awaitUnload t) = g t) :
    g (s.takeRollEnd st) = g (s.endTaken st) := by
  cases hb : r.back with
  | cassette => rw [takeRollEnd_cassette hr hb, hdrive, hroll]
  | bulk => rw [takeRollEnd_bulk hr hb, hmode, hfull]

theorem takeRollEnd_ord (hr : s.rollAt st = some r) :
    (s.takeRollEnd st).ord = ((s.endItemFirst st).holdCurrent st .rollEnd).ord := by
  rw [takeRollEnd_keeps State.ord hr, endTaken_ord] <;> simp

end

/-- Settles O42: what the station gives up, the roll by its back, and the order by the item in hand. -/
theorem rollEndIsTaken : Obligations.RollEndIsTaken := by
  intro st s r hr t
  have hord : t.ord = ((s.endItemFirst st).holdCurrent st .rollEnd).ord := takeRollEnd_ord hr
  refine ⟨?_, ?_, ?_, ?_, fun hleft => ?_, fun c hc hspent => ?_⟩
  · exact (takeRollEnd_keeps (fun t => (t.seq st).context) hr (fun _ _ _ => rfl) (fun _ _ => rfl) (fun _ _ => rfl)
      fun t => setMode_context t st _ st).trans (endTaken_context s st)
  · exact (takeRollEnd_keeps (fun t => (t.seq st).current) hr (fun _ _ _ => rfl) (fun _ _ => rfl) (fun _ _ => rfl)
      fun t => setMode_current t st _ st).trans (endTaken_current s st)
  · exact (takeRollEnd_keeps (fun t => t.rol.frames) hr (fun _ _ _ => rfl) (fun _ _ => rfl) (fun _ _ => rfl)
      fun t => by simp).trans (endTaken_frames s st)
  · have hend : (s.endTaken st).rollAt st = some r := (rollAt_of_rolls (endTaken_rolls s st) st).trans hr
    split
    · next hb =>
      simp only [t, takeRollEnd_cassette hr hb]
      refine ⟨modRoll_rollAt (s := s.endTaken st) hend fun _ => rfl, endTaken_mode s st, ?_⟩
      rw [State.modDrive_drive_same]
      exact ⟨rfl, rfl, rfl⟩
    · next hb =>
      simp only [t, takeRollEnd_bulk hr hb]
      refine ⟨?_, setMode_mode ..⟩
      rw [rollAt_of_rolls (s := (s.endTaken st).rollFull r st) (by rw [State.setMode_rol])]
      exact rollFull_rollAt hend st
  · rw [endItemFirst_unspent hleft] at hord
    split
    · next h => rw [hord, holdCurrent_none h]
    · next id h => rw [hord, holdCurrent_some h]
  · intro ended
    rw [endItemFirst_spent hc hspent] at hord
    have hcurrent : (ended.seq st).current = (s.seq st).current :=
      (settle_current _ st st).trans (by simp [State.seq])
    split
    · next hmore =>
      rw [if_pos hmore] at hord
      split
      · next h => rw [hord, holdCurrent_none (hcurrent.trans h)]
      · next id h => rw [hord, holdCurrent_some (hcurrent.trans h)]
    · next hmore =>
      rw [if_neg hmore, holdCurrent_none] at hord
      · exact hord
      · rw [State.orderDone, State.clearCurrent, State.modSeq_seq_same]

end Sys2Proof.Machine
end

section
/-! SUPPORT. The drive's events, and what the end of a move leads to (R37, R38, R40, R98 to R102, R187, R190). -/

namespace Sys2Proof.Machine

section

variable {s : State} {st : Station} {c : ItemContext} {r : Roll}

/-! ### The drive's events (R98 to R101) -/

theorem pulling_eq {d : Drive} {m : Move} (h : d.move = some m) : d.pulling = decide (m ≠ .rewind) := by
  unfold Drive.pulling
  rw [h]
  cases m <;> rfl

theorem pulse_rewinding (h : (s.drive st).move = some .rewind) : s.pulse st = s := by
  simp [State.pulse, pulling_eq h]

theorem pulse_atRest (h : (s.drive st).move = none) : s.pulse st = s := by
  simp [State.pulse, Drive.pulling, h]

/-- A pulse that counts; the eighth completes the move. -/
theorem pulse_counted {m : Move} (h : (s.drive st).move = some m) (hm : m ≠ .rewind) :
    let u := s.modDrive st fun d => { d with pulses := d.pulses + 1 }
    s.pulse st = if (s.drive st).pulses < 7 then u else (u.modDrive st Drive.stop).moveOver st m := by
  intro u
  have hpulses : (u.drive st).pulses = (s.drive st).pulses + 1 := by simp [u]
  have hpulling : (s.drive st).pulling = true := by simp [pulling_eq h, hm]
  simp only [State.pulse, hpulling, if_true, h]
  by_cases hlast : (s.drive st).pulses < 7
  · rw [if_pos hlast, if_neg (by rw [hpulses]; omega)]
  · rw [if_neg hlast, if_pos (by rw [hpulses]; omega)]

theorem rewound_eq (hr : s.rollAt st = some r) : s.rewound st =
    if (s.drive st).move = some .rewind then ((s.modDrive st Drive.stop).rollFull r st).setMode st .awaitUnload
    else s := by
  have hroll : (s.modDrive st Drive.stop).rollAt st = some r := hr
  simp only [State.rewound, hroll]

/-! ### The end of a leader frame and of an advance (R37, R38, R102) -/

theorem leaderOver_eq (hr : s.rollAt st = some r) :
    let u := s.modDrive st fun d => { d with leader := d.leader + 1 }
    s.leaderOver st =
      if (s.drive st).leader < 2 then (u.startMove st .leader).filmEndIfSeen st
      else (u.modRoll r.number fun r => { r with state := .opened }).becomeReady st := by
  intro u
  have hroll : u.rollAt st = some r := hr
  have hleader : (u.drive st).leader < 3 ↔ (s.drive st).leader < 2 := by
    rw [State.modDrive_drive_same]
    exact Nat.succ_lt_succ_iff
  rw [State.leaderOver, State.leaderOn]
  simp only [hroll, hleader, u]

theorem endReached_eq (hr : s.rollAt st = some r) : s.endReached st = decide (r.capacity < r.next) := by
  simp only [State.endReached, hr, Roll.ended]

theorem advanceOver_misfired (h : (s.seq st).repeatMisfire = true) :
    s.advanceOver st = s.enterFault st .misfireRepeat false := if_pos h

theorem advanceOver_idle (h : (s.seq st).repeatMisfire = false) (hc : (s.seq st).context = none) :
    s.advanceOver st = s.rest st := by
  simp [State.advanceOver, h, hc]

theorem advanceOver_spent (h : (s.seq st).repeatMisfire = false) (hc : (s.seq st).context = some c)
    (hspent : c.entries.length < c.nextIndex) : s.advanceOver st = s.itemOver st c := by
  simp [State.advanceOver, h, hc, ItemContext.entriesLeft, Nat.not_le.mpr hspent]

theorem advanceOver_unspent (h : (s.seq st).repeatMisfire = false) (hc : (s.seq st).context = some c)
    (hleft : ¬ c.entries.length < c.nextIndex) : s.advanceOver st = if s.endReached st then s.takeRollEnd st
      else match c.request with
        | .granted => (s.setMode st .exposing).askPop st
        | .waiting => s.setMode st .exposing
        | .none => s.beginEntry st := by
  simp [State.advanceOver, h, hc, ItemContext.entriesLeft, Nat.not_lt.mp hleft] <;> rfl

/-! ### Jams (R99, R187) -/

theorem jamCapture_eq (hr : s.rollAt st = some r) (f : StationFault) : s.jamCapture st f =
    { bareCapture (.station f) with
      roll := some r.number, frame := some r.next
      order := if f = .jam then (s.seq st).current else none
      item := if f = .jam then (s.seq st).context.map ItemContext.item else none } := by
  simp only [State.jamCapture, hr]
  cases f <;> rfl

theorem jam_eq (m : Move) :
    let u := s.capture (stationUnit st) (s.jamCapture st (s.jamFault st m))
    s.jam st m = if (s.seq st).mode = .fault then
      u.modSeq st fun q =>
        { q with faultMemory := q.faultMemory.map fun x => { x with cause := s.jamFault st m, unfinished := true } }
    else u.enterFault st (if (s.seq st).repeatMisfire then .misfireRepeat else s.jamFault st m) true := by
  intro u
  have hseq : (s.capture (stationUnit st) (s.jamCapture st (s.jamFault st m))).seq st = s.seq st := by simp [State.seq]
  simp only [State.jam, hseq, u]
  split
  · rfl
  · split <;> rfl

/-! ### The film's end in a move (R100, R107, R108) -/

theorem recordFilmEnd_eq (hr : s.rollAt st = some r) : s.recordFilmEnd st =
    if r.capacity < r.next then s else s.modRoll r.number fun x => { x with capacity := x.next - 1, short := true } := by
  simp only [State.recordFilmEnd, hr, Roll.ended, decide_eq_true_eq]
  rfl

theorem recordFilmEnd_seq (s : State) (st x : Station) : (s.recordFilmEnd st).seq x = s.seq x := by
  unfold State.recordFilmEnd
  split
  · split <;> rfl
  · rfl

theorem filmEnd_inFault (h : (s.seq st).mode = .fault) :
    let v := (s.modDrive st Drive.stop).recordFilmEnd st
    s.filmEnd st = (if (s.seq st).faultMemory.any fun x => x.cause == .leaderJam then v
      else (v.holdCurrent st .fault).leaveOrder st).takeRollEnd st := by
  intro v
  have hseq : v.seq st = s.seq st := recordFilmEnd_seq ..
  have hmode : (v.seq st).mode = .fault := by rw [hseq, h]
  simp only [State.filmEnd, v, hmode]
  rw [← hseq]
  congr 1
  rcases (v.seq st).faultMemory with _ | ⟨_, cause, _⟩
  · rfl
  · cases cause <;> rfl

theorem filmEnd_advancing (h : (s.seq st).mode = .advancing) :
    let v := (s.modDrive st Drive.stop).recordFilmEnd st
    s.filmEnd st = if (s.seq st).repeatMisfire then v.enterFault st .misfireRepeat false else v.takeRollEnd st := by
  intro v
  have hseq : v.seq st = s.seq st := recordFilmEnd_seq ..
  have hmode : (v.seq st).mode = .advancing := by rw [hseq, h]
  rw [← hseq]
  simp only [State.filmEnd, v, hmode]

theorem filmEnd_elsewhere (hf : (s.seq st).mode ≠ .fault) (ha : (s.seq st).mode ≠ .advancing) :
    s.filmEnd st = ((s.modDrive st Drive.stop).recordFilmEnd st).takeRollEnd st := by
  have hseq : ((s.modDrive st Drive.stop).recordFilmEnd st).seq st = s.seq st := recordFilmEnd_seq ..
  rw [← hseq] at hf ha
  simp only [State.filmEnd]

end

/-- Settles O44: the events by the move in progress, then what each end of a move leads to. -/
theorem driveEventsActOnTheMove : Obligations.DriveEventsActOnTheMove := by
  refine ⟨fun st s => ⟨event_does ?_, event_does rfl, event_does ?_, fun r hr => event_does (rewound_eq hr),
      event_does ?_, event_does rfl⟩, fun d => rfl, fun st m s => ⟨rfl, rfl⟩, fun st s r => leaderOver_eq,
    fun st s r hr => ?_, fun st s => ?_, fun st m s r hr => ?_, fun st cause unfinished s => rfl, fun st s r hr => ?_⟩
  · split
    · next h => exact pulse_rewinding h
    · next h => exact pulse_atRest h
    · next m hm h => exact pulse_counted (s := s.begun) h hm
  · have hbegun : (s.begun.drive st).move = (s.drive st).move := rfl
    rw [State.endSensed, hbegun]
    rcases (s.drive st).move with _ | m
    · rfl
    · cases m <;> rfl
  · have hbegun : (s.begun.drive st).rewindTimer = (s.drive st).rewindTimer := rfl
    rw [State.rewindTimedOut, hbegun]
    cases (s.drive st).rewindTimer <;> rfl
  · rw [State.rest, endReached_eq hr]
    simp only [decide_eq_true_eq]
    rfl
  · cases hm : (s.seq st).mode <;> simp only [State.moveOver, hm]
    split
    · next h => exact advanceOver_misfired h
    · next h =>
      have hfired : (s.seq st).repeatMisfire = false := Bool.eq_false_of_not_eq_true h
      cases hc : (s.seq st).context with
      | none => exact advanceOver_idle hfired hc
      | some c =>
        by_cases hspent : c.entries.length < c.nextIndex
        · rw [advanceOver_spent hfired hc hspent, State.itemOver]
          simp only [if_pos hspent]
          rfl
        · rw [advanceOver_unspent hfired hc hspent]
          simp only [if_neg hspent] <;> rfl
  · intro q fault c u
    have hfault : s.jamFault st m = fault := by
      cases m with
      | leader | advance | rewind => rfl
      | recovery =>
        simp only [fault, q, State.jamFault]
        rcases (s.seq st).faultMemory with _ | ⟨_, cause, _⟩
        · rfl
        · cases cause <;> rfl
    rw [jam_eq, jamCapture_eq hr, hfault]
    rfl
  · intro u v
    have hv : (s.modDrive st Drive.stop).recordFilmEnd st = v := recordFilmEnd_eq (s := u) hr
    have hcurrent : (v.seq st).current = (s.seq st).current := by rw [← hv, recordFilmEnd_seq, State.modDrive_seq]
    split
    · next h =>
      rw [filmEnd_inFault h, hv]
      split
      · rfl
      · rw [State.holdCurrent, hcurrent]
        rfl
    · next h => rw [filmEnd_advancing h, hv]
    · next hf ha => rw [filmEnd_elsewhere hf ha, hv]

end Sys2Proof.Machine
end

section
/-! SUPPORT. A frame recorded and charged: the frame records and the journal's entries through the recording, the posting and
the advance that follows (R35, R36, R39, R41, R44, R104, R129). -/

namespace Sys2Proof.Machine

/-- What recording and posting alone add to: the frame records and the journal's entries. -/
def State.records (s : State) : List Frame × List JournalEntry := (s.rol.frames, s.jnl.entries)

/-! ### The advance adds no record and no entry -/

theorem records_of_blocks {s t : State} (hr : t.rol = s.rol) (hj : t.jnl = s.jnl) : t.records = s.records := by
  rw [State.records, State.records, hr, hj]

section

variable (s : State) (st : Station)

@[simp] theorem modSeq_records (f : Sequencer → Sequencer) : (s.modSeq st f).records = s.records := rfl
@[simp] theorem modContext_records (f : ItemContext → ItemContext) : (s.modContext st f).records = s.records := rfl
@[simp] theorem modDrive_records (f : Drive → Drive) : (s.modDrive st f).records = s.records := rfl
@[simp] theorem startMove_records (m : Move) : (s.startMove st m).records = s.records := rfl
@[simp] theorem modRoll_records (n : Nat) (f : Roll → Roll) : (s.modRoll n f).records = s.records := rfl
@[simp] theorem rollFull_records (r : Roll) : (s.rollFull r st).records = s.records := rfl
@[simp] theorem takeSlot_records : (s.takeSlot st).records = s.records := rfl

@[simp] theorem setMode_records (m : Mode) : (s.setMode st m).records = s.records :=
  records_of_blocks (by simp) (by simp)

@[simp] theorem listRequest_records (r : GenRequest) : (s.listRequest r).records = s.records :=
  records_of_blocks (by simp) (by simp)

@[simp] theorem holdCurrent_records (reason : HoldReason) : (s.holdCurrent st reason).records = s.records :=
  records_of_blocks (by simp) (by simp)

@[simp] theorem endItem_records (id n : Nat) (e : ItemState) : (s.endItem st id n e).records = s.records :=
  records_of_blocks (by simp) (by simp)

@[simp] theorem orderDone_records (id : Nat) : (s.orderDone st id).records = s.records :=
  records_of_blocks (by simp) (by simp)

@[simp] theorem dropClaim_records : (s.dropClaim st).records = s.records := records_of_blocks (by simp) (by simp)

@[simp] theorem dropSlot_records : (s.dropSlot st).records = s.records := by
  unfold State.dropSlot
  split
  · rfl
  · split
    · simp [State.records, State.handBackSlot]
    · rfl

@[simp] theorem dropContext_records : (s.dropContext st).records = s.records := by
  unfold State.dropContext
  split <;> rfl

@[simp] theorem settle_records : (s.settle st).records = s.records := by simp [State.settle]
@[simp] theorem leaveOrder_records : (s.leaveOrder st).records = s.records := by
  simp [State.leaveOrder, State.clearCurrent]

@[simp] theorem endItemFirst_records : (s.endItemFirst st).records = s.records :=
  endItemFirst_keeps State.records (by simp) (by simp) (by simp) s

@[simp] theorem takeRollEnd_records : (s.takeRollEnd st).records = s.records := by
  simp only [State.takeRollEnd]
  split
  · split <;> simp
  · simp

@[simp] theorem enterFault_records (cause : StationFault) (unfinished : Bool) :
    (s.enterFault st cause unfinished).records = s.records := by simp [State.enterFault]

@[simp] theorem recordFilmEnd_records : (s.recordFilmEnd st).records = s.records := by
  unfold State.recordFilmEnd
  split
  · split <;> rfl
  · rfl

@[simp] theorem filmEnd_records : (s.filmEnd st).records = s.records := by
  simp only [State.filmEnd]
  split
  · rw [takeRollEnd_records]
    split <;> simp
  · split <;> simp
  · simp

@[simp] theorem filmEndIfSeen_records : (s.filmEndIfSeen st).records = s.records := by
  unfold State.filmEndIfSeen
  split <;> simp

end

section

variable {s : State} {st : Station}

/-- A station that is not EXPOSING settles at the generator's fault and takes no order. -/
theorem genFaultUnfired_records (h : (s.seq st).mode ≠ .exposing) : (s.genFaultUnfired st).records = s.records := by
  have hmode : (((s.holdCurrent st .generator).leaveOrder st).seq st).mode = (s.seq st).mode := by
    rw [leaveOrder_mode, holdCurrent_seq]
  simp only [State.genFaultUnfired, hmode, if_neg h]
  simp

theorem claim_early_records (h : (s.seq st).mode ≠ .exposing) : (s.claim true st).records = s.records := by
  simp only [State.claim]
  split
  · split
    · simp only [if_true, State.placeRequest]
      split
      · rw [genFaultUnfired_records, modContext_records]
        exact fun hm => h ((modSeq_keeps Sequencer.mode rfl st).symm.trans hm)
      · simp
    · rfl
  · rfl

theorem earlyRequest_records (h : (s.seq st).mode ≠ .exposing) : (s.earlyRequest st).records = s.records := by
  unfold State.earlyRequest
  split
  · rfl
  · split
    · rw [claim_early_records, takeSlot_records]
      exact fun hm => h ((modSeq_keeps Sequencer.mode rfl st).symm.trans hm)
    · rfl

theorem advance_records (early : Bool) (s : State) (st : Station) : (s.advance early st).records = s.records := by
  have hmode : (((s.startMove st .advance).setMode st .advancing).seq st).mode ≠ .exposing := by simp
  rw [State.advance, filmEndIfSeen_records]
  cases early with
  | false => simp
  | true => simp [earlyRequest_records hmode]

end

/-! ### The frame recorded -/

/-- What a frame record takes from the item context, its entry and its plan. -/
def ItemContext.shot (c : ItemContext) (e : Entry) (p : CurrentPlan) : Exposure :=
  { order := c.order, item := c.item, index := c.nextIndex, kind := e.kind, offset := e.offset
    level := p.plan.level, pops := p.plan.pops, achieved := p.plan.achieved, deviation := p.plan.deviation
    overFlag := p.plan.overFlag, underFlag := p.plan.underFlag }

section

variable {s : State} {st : Station} {c : ItemContext} {r : Roll} {e : Entry} {p : CurrentPlan}

theorem exposure_eq (he : c.entries[c.nextIndex - 1]? = some e) (hp : c.plan = some p) :
    c.exposure = some (c.shot e p) := by
  simp only [ItemContext.exposure, he, hp, ItemContext.shot]

theorem exposure_ungranted (c : ItemContext) : c.ungranted.exposure = c.exposure := by
  cases hp : c.plan with
  | none => simp [ItemContext.exposure, ItemContext.ungranted, hp]
  | some p => cases he : c.entries[c.nextIndex - 1]? <;> simp [ItemContext.exposure, ItemContext.ungranted, hp, he]

theorem recordShot_some {x : Exposure} (hr : s.rollAt st = some r) (hc : (s.seq st).context = some c)
    (hx : c.exposure = some x) (kind : FrameKind) : s.recordShot st kind =
    (s.recordFrame r kind (some x)).modSeq st fun q =>
      { q with context := some { c with records := c.records - 1, recorded := true } } := by
  have hc' : ((s.recordFrame r kind (some x)).seq st).context = some c := hc
  simp only [State.recordShot, hr, hc, Option.bind_some, hx]
  exact modContext_some hc' _

theorem recordShot_context {x : Exposure} (hr : s.rollAt st = some r) (hc : (s.seq st).context = some c)
    (hx : c.exposure = some x) (kind : FrameKind) : ((s.recordShot st kind).seq st).context =
    some { c with records := c.records - 1, recorded := true } := by
  rw [recordShot_some hr hc hx, State.modSeq_seq_same]

theorem recordShot_keeps {α : Type} (g : State → α) (hseq : ∀ t f, g (State.modContext st f t) = g t)
    (hrol : ∀ t f, g (State.modRol f t) = g t) (s : State) (kind : FrameKind) : g (s.recordShot st kind) = g s := by
  unfold State.recordShot
  split
  · rw [hseq, State.recordFrame, hrol]
  · rfl

@[simp] theorem recordShot_jnl (s : State) (st : Station) (kind : FrameKind) : (s.recordShot st kind).jnl = s.jnl :=
  recordShot_keeps State.jnl (fun _ _ => rfl) (fun _ _ => rfl) s kind

@[simp] theorem recordShot_stamp (s : State) (st : Station) (kind : FrameKind) : (s.recordShot st kind).stamp = s.stamp :=
  recordShot_keeps State.stamp (fun _ _ => rfl) (fun _ _ => rfl) s kind

theorem recordShot_frames {x : Exposure} (hr : s.rollAt st = some r) (hc : (s.seq st).context = some c)
    (hx : c.exposure = some x) (hroom : r.next ≤ r.capacity) (htable : s.rol.frames.length < 1024) (kind : FrameKind) :
    (s.recordShot st kind).rol.frames = s.rol.frames ++ [newFrame r kind (some x) s.stamp] := by
  rw [recordShot_some hr hc hx]
  exact Rol.record_frames r kind _ _ _ hroom htable

/-- The film tables with one more frame of a roll, which a reserved record is used for. -/
theorem record_reserved (hroom : r.next ≤ r.capacity) (htable : s.rol.frames.length < 1024) {kind : FrameKind}
    (hk : kind ≠ .recovery) (x : Option Exposure) (date : Option Nat) : s.rol.record r kind x date =
    { s.rol with frames := s.rol.frames ++ [newFrame r kind x date], reserved := s.rol.reserved - 1
                 rolls := s.rol.rolls.map fun y => if y.number = r.number then { y with next := y.next + 1 } else y } := by
  have hmax : s.rol.frames.length < Config.maxFrames := htable
  simp only [Rol.record, hroom, hmax, and_self, if_true, if_neg hk, updateWhere, beq_iff_eq]

theorem newFrame_shot {kind : FrameKind} (hk : kind = .exposed ∨ kind = .spoiled) (x : Option Exposure)
    (date : Option Nat) : newFrame r kind x date =
    { roll := r.number, number := r.next, kind := kind, exposure := x, charged := kind == .exposed, date := date
      suspect := false, verdict := .none, label := .none, duplicateRisk := false, uncertain := false } := by
  rcases hk with rfl | rfl <;> rfl

/-! ### The entry posted -/

theorem postExposure_entries (hc : (s.seq st).context = some c) (he : c.entries[c.nextIndex - 1]? = some e)
    (hroom : s.jnl.entries.length < 256) (roll frame : Nat) :
    (s.postExposure st roll frame).jnl.entries = s.jnl.entries ++
      [{ seq := s.jnl.next, kind := .exposure, account := c.account, amount := c.rates.rate e.kind, order := some c.order
         item := some c.item, roll := some roll, frame := some frame, date := s.stamp }] := by
  have hcharged (f : ItemContext → ItemContext) :
      ((s.chargeAccount c.account (c.rates.rate e.kind)).modContext st f).jnl = s.jnl := by simp
  simp only [State.postExposure, hc, he]
  rw [appendEntry_jnl, hcharged, Jnl.append_room _ _ _ hroom]

@[simp] theorem postExposure_rol (s : State) (st : Station) (roll frame : Nat) :
    (s.postExposure st roll frame).rol = s.rol := by
  unfold State.postExposure
  (repeat' split) <;> simp

/-! ### The whole of a completed entry -/

@[simp] theorem endGrant_rol (s : State) (st : Station) : (s.endGrant st).rol = s.rol := by simp [State.endGrant]
@[simp] theorem endGrant_jnl (s : State) (st : Station) : (s.endGrant st).jnl = s.jnl := by simp [State.endGrant]
@[simp] theorem endGrant_clk (s : State) (st : Station) : (s.endGrant st).clk = s.clk := by simp [State.endGrant]

theorem completeEntry_eq (hc : (s.seq st).context = some c) (hr : s.rollAt st = some r) :
    s.completeEntry st =
      (((((s.endGrant st).recordShot st .exposed).postExposure st r.number r.next).modItem c.order c.item
        fun i => { i with framesDone := i.framesDone + 1 }).modContext st
          fun c => { c with nextIndex := c.nextIndex + 1, plan := none }).advance true st := by
  simp only [State.completeEntry, hc, hr]

theorem completeEntry_records (hc : (s.seq st).context = some c) (hr : s.rollAt st = some r) :
    (s.completeEntry st).records = (((s.endGrant st).recordShot st .exposed).postExposure st r.number r.next).records := by
  rw [completeEntry_eq hc hr, advance_records]
  rfl

end

/-- Settles O27: the grant released leaves what is recorded and charged as it was, and the advance adds nothing to it. -/
theorem completedFrameIsRecordedAndCharged : Obligations.CompletedFrameIsRecordedAndCharged := by
  refine ⟨fun st s c r e p hc hr he hp hroom htable hslot => ?_, fun st s c r hc hr => completeEntry_eq hc hr,
    fun st s c r e p kind hc hr he hp hk hroom htable => ?_, fun early st s => by cases early <;> rfl⟩
  · intro t shot
    obtain ⟨c', hc', hsame⟩ := exists_context_of_ungranted (s.endGrant_ungranted st) hc
    have hfields {α : Type} (g : ItemContext → α) (hg : ∀ c, g c.ungranted = g c) : g c' = g c :=
      contextField_of_ungranted g hg hsame
    have hx : c'.exposure = some shot := (hfields _ exposure_ungranted).trans (exposure_eq he hp)
    have he' : c'.entries[c'.nextIndex - 1]? = some e :=
      (hfields (fun c => c.entries[c.nextIndex - 1]?) fun _ => rfl).trans he
    have hr' : (s.endGrant st).rollAt st = some r := (rollAt_of_rolls (by simp) st).trans hr
    have hstamp : (s.endGrant st).stamp = s.stamp := by simp [State.stamp]
    have hrecords := completeEntry_records hc hr
    refine ⟨(congrArg Prod.fst hrecords).trans ?_, (congrArg Prod.snd hrecords).trans ?_⟩
    · simp only [State.records, postExposure_rol]
      rw [recordShot_frames hr' hc' hx (by exact hroom) (by simpa using htable), newFrame_shot (.inl rfl), hstamp,
        endGrant_rol]
      rfl
    · simp only [State.records]
      rw [postExposure_entries (recordShot_context hr' hc' hx .exposed) he' (by simpa using hslot), recordShot_stamp,
        recordShot_jnl, endGrant_jnl, hstamp]
      simp only [hfields ItemContext.account fun _ => rfl, hfields ItemContext.rates fun _ => rfl,
        hfields ItemContext.order fun _ => rfl, hfields ItemContext.item fun _ => rfl]
  · intro t shot frame
    have hreserved : kind ≠ .recovery := by rcases hk with rfl | rfl <;> decide
    simp only [t, recordShot_some hr hc (exposure_eq he hp), State.recordFrame, State.modSeq, State.modRol,
      record_reserved hroom htable hreserved, newFrame_shot hk]
    rfl

end Sys2Proof.Machine
end

section
/-! SUPPORT. The door opened: the stand, the frame being exposed, and the roll in the back (R48, R98, R100, R110). -/

namespace Sys2Proof.Machine

section

variable {s : State} {st : Station} {c : ItemContext} {r : Roll}

/-! ### The frame being exposed as the door opens (R48) -/

theorem firesGiven_held {h : Holder} (hh : s.gen.holder = some h) (hst : h.station = st) :
    s.firesGiven st = some h.given := by
  simp only [State.firesGiven, hh, if_pos hst]

theorem spoilAtDoor_fired {given : Nat} (hc : (s.seq st).context = some c) (hreq : c.request = .granted)
    (hg : s.firesGiven st = some given) (hfired : 1 ≤ given) : s.spoilAtDoor st = s.recordShot st .spoiled := by
  simp only [State.spoilAtDoor, hc, hg, if_pos (And.intro hreq hfired)]

/-- What a recording keeps, the opening of the door keeps up to the station's leaving its order. -/
theorem spoilAtDoor_keeps {α : Type} (g : State → α) (hshot : ∀ t, g (State.recordShot st .spoiled t) = g t) (s : State) :
    g (s.spoilAtDoor st) = g s := by
  unfold State.spoilAtDoor
  split
  · split
    · exact hshot s
    · rfl
  · rfl

@[simp] theorem spoilAtDoor_drives (s : State) (st : Station) : (s.spoilAtDoor st).drives = s.drives :=
  spoilAtDoor_keeps State.drives (recordShot_keeps State.drives (fun _ _ => rfl) (fun _ _ => rfl) · .spoiled) s

@[simp] theorem spoilAtDoor_ord (s : State) (st : Station) : (s.spoilAtDoor st).ord = s.ord :=
  spoilAtDoor_keeps State.ord (recordShot_keeps State.ord (fun _ _ => rfl) (fun _ _ => rfl) · .spoiled) s

@[simp] theorem spoilAtDoor_current (s : State) (st : Station) :
    ((s.spoilAtDoor st).seq st).current = (s.seq st).current :=
  spoilAtDoor_keeps (fun t => (t.seq st).current) (recordShot_keeps (fun t => (t.seq st).current)
    (fun _ _ => modSeq_keeps Sequencer.current rfl st) (fun _ _ => rfl) · .spoiled) s

/-- The number, the back and the state of the rolls: what recording a frame leaves of them. -/
def Roll.standing (r : Roll) : Nat × Option Station × RollState := (r.number, r.station, r.state)

theorem spoilAtDoor_standing (s : State) (st : Station) :
    (s.spoilAtDoor st).rol.rolls.map Roll.standing = s.rol.rolls.map Roll.standing := by
  have hrecord (t : Rol) (r : Roll) (kind : FrameKind) (e : Option Exposure) (d : Option Nat) :
      (t.record r kind e d).rolls.map Roll.standing = t.rolls.map Roll.standing := by
    unfold Rol.record
    split
    · exact map_updateWhere _ fun _ => rfl
    · rfl
  refine spoilAtDoor_keeps (fun t => t.rol.rolls.map Roll.standing) (fun t => ?_) s
  unfold State.recordShot
  split
  · exact hrecord ..
  · rfl

/-- Rolls of the same numbers, backs and states: in a back stands the same one. -/
theorem rollAt_of_standing {t : State} (h : t.rol.rolls.map Roll.standing = s.rol.rolls.map Roll.standing)
    (hr : s.rollAt st = some r) : ∃ q, t.rollAt st = some q ∧ q.number = r.number ∧ q.state = r.state := by
  have hfind (u : State) : (u.rollAt st).map Roll.standing =
      (u.rol.rolls.map Roll.standing).find? fun x => x.2.1 == some st := by
    rw [List.find?_map]
    rfl
  have hmap := (hfind t).trans ((congrArg _ h).trans (hfind s).symm)
  rw [hr, Option.map_some] at hmap
  obtain ⟨q, hq, hsame⟩ := Option.map_eq_some_iff.mp hmap
  exact ⟨q, hq, congrArg Prod.fst hsame, congrArg (fun x => x.2.2) hsame⟩

/-! ### The roll in the back (R110) -/

theorem rollOut_rol (s : State) (n : Nat) (st : Station) (f : Roll → Roll) :
    (s.rollOut n st f).rol = (s.modRoll n fun r => { f r with state := .out, station := none }).rol := by
  simp only [State.rollOut]
  split <;> simp

theorem rollOpened_keeps {α : Type} (g : State → α) (hrol : ∀ t f, g (State.modRol f t) = g t)
    (hout : ∀ t n f, g (State.rollOut n st f t) = g t) (s : State) : g (s.rollOpened st) = g s := by
  unfold State.rollOpened
  split
  · rfl
  · split
    · exact hout ..
    · rw [hout, hrol]

@[simp] theorem rollOpened_seqs (s : State) (st : Station) : (s.rollOpened st).seqs = s.seqs :=
  rollOpened_keeps State.seqs (fun _ _ => rfl) (by simp) s

@[simp] theorem rollOpened_drives (s : State) (st : Station) : (s.rollOpened st).drives = s.drives :=
  rollOpened_keeps State.drives (fun _ _ => rfl) (by simp) s

@[simp] theorem rollOpened_ord (s : State) (st : Station) : (s.rollOpened st).ord = s.ord :=
  rollOpened_keeps State.ord (fun _ _ => rfl) (by simp) s

/-- A live roll in the back goes OUT, opened in light, its end recorded, with every frame of it suspect. -/
theorem rollOpened_live (hr : s.rollAt st = some r) (hlive : r.state ≠ .full) : (s.rollOpened st).rol =
    { s.rol with
      frames := updateWhere (fun f => f.roll == r.number) (fun f => { f with suspect := true }) s.rol.frames
      rolls := updateWhere (fun x => x.number == r.number)
        (fun x => { x.truncate with openedInLight := true, state := .out, station := none }) s.rol.rolls } := by
  simp only [State.rollOpened, hr, if_neg hlive, rollOut_rol]
  rfl

theorem rollOpened_full (hr : s.rollAt st = some r) (hfull : r.state = .full) :
    (s.rollOpened st).rol.frames = s.rol.frames := by
  simp only [State.rollOpened, hr, if_pos hfull, rollOut_rol]
  rfl

/-- A frame record stands, as it was or suspect, when the roll in the back is opened. -/
theorem rollOpened_mem_frames {x : Frame} (hx : x ∈ s.rol.frames) :
    ∃ y ∈ (s.rollOpened st).rol.frames, y = x ∨ y = { x with suspect := true } := by
  cases hr : s.rollAt st with
  | none => exact ⟨x, by simpa only [State.rollOpened, hr] using hx, .inl rfl⟩
  | some r =>
    by_cases hfull : r.state = .full
    · exact ⟨x, by rwa [rollOpened_full hr hfull], .inl rfl⟩
    · rw [rollOpened_live hr hfull]
      refine ⟨_, mem_updateWhere.mpr ⟨x, hx, rfl⟩, ?_⟩
      split
      · exact .inr rfl
      · exact .inl rfl

theorem rollOpened_rolls (hr : s.rollAt st = some r) (hlive : r.state ≠ .full) :
    (∃ q ∈ (s.rollOpened st).rol.rolls, q.number = r.number) ∧
    (∀ q ∈ (s.rollOpened st).rol.rolls, q.number = r.number →
      q.state = .out ∧ q.station = none ∧ q.openedInLight = true ∧ q.capacity = q.next - 1) ∧
    ∀ x ∈ (s.rollOpened st).rol.frames, x.roll = r.number → x.suspect = true := by
  rw [rollOpened_live hr hlive]
  refine ⟨⟨_, mem_updateWhere.mpr ⟨r, List.mem_of_find?_eq_some hr, rfl⟩, ?_⟩, fun q hq hn => ?_, fun x hx hn => ?_⟩
  · simp [Roll.truncate]
  · obtain ⟨a, _, rfl⟩ := mem_updateWhere.mp hq
    by_cases ha : a.number = r.number
    · simp [ha, Roll.truncate]
    · simp [ha] at hn
  · obtain ⟨a, _, rfl⟩ := mem_updateWhere.mp hx
    by_cases ha : a.roll = r.number
    · simp [ha]
    · simp [ha] at hn

/-! ### The order that was in hand -/

theorem holdIfActive_ord_congr {t : State} (h : t.ord = s.ord) (id : Nat) (reason : HoldReason) :
    (t.holdIfActive id reason).ord = (s.holdIfActive id reason).ord := by
  have hactive : t.orderActive id = s.orderActive id := by simp only [State.orderActive, State.order?, h]
  simp only [State.holdIfActive, hactive]
  split
  · simp [State.holdOrder, State.modOrder, h]
  · exact h

end

/-! ### The opened door -/

/-- The station at work when its door opens, its frame spoiled and its order left, with the door open. -/
def State.leftAtDoor (st : Station) (s : State) : State :=
  ((((s.modDrive st fun d => { d.stop with door := .opened, endSeen := false }).spoilAtDoor st).holdCurrent st
    .rollEnd).leaveOrder st).modSeq st fun q => { q with faultMemory := none, repeatMisfire := false }

section

variable {s : State} {st : Station}

theorem doorOpen_unloaded (h : (s.seq st).mode = .unloaded) :
    s.doorOpen st = s.modDrive st fun d => { d.stop with door := .opened, endSeen := false } := by
  simp only [State.doorOpen, State.modDrive_seq, h]

theorem doorOpen_awaitUnload (h : (s.seq st).mode = .awaitUnload) : s.doorOpen st =
    ((s.modDrive st fun d => { d.stop with door := .opened, endSeen := false }).rollOpened st).setMode st .unloaded := by
  simp only [State.doorOpen, State.modDrive_seq, h]

theorem doorOpen_atWork (hu : (s.seq st).mode ≠ .unloaded) (ha : (s.seq st).mode ≠ .awaitUnload) :
    s.doorOpen st = ((s.leftAtDoor st).rollOpened st).setMode st .unloaded := by
  simp only [State.doorOpen, State.modDrive_seq]
  rfl

theorem doorOpen_drive (s : State) (st : Station) :
    (s.doorOpen st).drive st = { (s.drive st).stop with door := .opened, endSeen := false } := by
  have hopened : (s.modDrive st fun d => { d.stop with door := .opened, endSeen := false }).drive st =
      { (s.drive st).stop with door := .opened, endSeen := false } := State.modDrive_drive_same ..
  rw [← hopened]
  by_cases hu : (s.seq st).mode = .unloaded
  · rw [doorOpen_unloaded hu]
  · by_cases ha : (s.seq st).mode = .awaitUnload
    · simp [doorOpen_awaitUnload ha, State.drive]
    · simp [doorOpen_atWork hu ha, State.leftAtDoor, State.drive]

theorem doorOpen_mode (s : State) (st : Station) : ((s.doorOpen st).seq st).mode = .unloaded := by
  by_cases hu : (s.seq st).mode = .unloaded
  · rwa [doorOpen_unloaded hu]
  · by_cases ha : (s.seq st).mode = .awaitUnload
    · rw [doorOpen_awaitUnload ha, setMode_mode]
    · rw [doorOpen_atWork hu ha, setMode_mode]

@[simp] theorem leftAtDoor_context (s : State) (st : Station) : ((s.leftAtDoor st).seq st).context = none := by
  simp [State.leftAtDoor]

@[simp] theorem leftAtDoor_current (s : State) (st : Station) : ((s.leftAtDoor st).seq st).current = none := by
  simp [State.leftAtDoor]

theorem leftAtDoor_ord {id : Nat} (h : (s.seq st).current = some id) :
    (s.leftAtDoor st).ord = (s.holdIfActive id .rollEnd).ord := by
  simp only [State.leftAtDoor, State.modSeq_ord, State.leaveOrder_ord]
  rw [holdCurrent_some (by simpa using h)]
  exact holdIfActive_ord_congr (by simp) ..

theorem leftAtDoor_rolls (s : State) (st : Station) :
    (s.leftAtDoor st).rol.rolls.map Roll.standing = s.rol.rolls.map Roll.standing := by
  simp only [State.leftAtDoor, State.modSeq_rol, leaveOrder_rolls, State.holdCurrent_rol]
  exact spoilAtDoor_standing ..

theorem leftAtDoor_frames (s : State) (st : Station) : (s.leftAtDoor st).rol.frames =
    ((s.modDrive st fun d => { d.stop with door := .opened, endSeen := false }).spoilAtDoor st).rol.frames := by
  simp [State.leftAtDoor]

/-- The frame for which a fire has been given stands among the records, SPOILED and uncharged. -/
theorem leftAtDoor_spoiled {c : ItemContext} {h : Holder} {p : CurrentPlan} {e : Entry} {r : Roll}
    (hc : (s.seq st).context = some c) (hreq : c.request = .granted) (hp : c.plan = some p)
    (he : c.entries[c.nextIndex - 1]? = some e) (hh : s.gen.holder = some h) (hst : h.station = st)
    (hfired : 1 ≤ h.given) (hr : s.rollAt st = some r) (hroom : r.next ≤ r.capacity)
    (htable : s.rol.frames.length < 1024) :
    newFrame r .spoiled (some (c.shot e p)) s.stamp ∈ (s.leftAtDoor st).rol.frames := by
  let u := s.modDrive st fun d => { d.stop with door := .opened, endSeen := false }
  have hspoil : u.spoilAtDoor st = u.recordShot st .spoiled :=
    spoilAtDoor_fired (s := u) hc hreq (firesGiven_held (s := u) hh hst) hfired
  rw [leftAtDoor_frames, show _ = u.recordShot st .spoiled from hspoil,
    recordShot_frames (s := u) hr hc (exposure_eq he hp) hroom htable]
  exact List.mem_append_right _ (List.mem_singleton.mpr rfl)

end

/-- Settles O45: the drive and the state in every case, and at a station at work its item, its order, its frame and its
roll. -/
theorem doorOpenedClearsTheStand : Obligations.DoorOpenedClearsTheStand := by
  intro st s
  have hdrive := doorOpen_drive s.begun st
  refine ⟨(s.begun.doorOpen st).transmit, event_does rfl, ?_, ?_, ?_, ?_, ?_, fun hu ha => ?_⟩
  · exact congrArg Drive.move hdrive
  · exact congrArg Drive.motor hdrive
  · exact congrArg Drive.door hdrive
  · exact congrArg Drive.endSeen hdrive
  · exact doorOpen_mode s.begun st
  · have hopen := doorOpen_atWork (s := s.begun) hu ha
    have hrol : (s.begun.doorOpen st).transmit.rol = ((s.begun.leftAtDoor st).rollOpened st).rol := by simp [hopen]
    have hseq : (s.begun.doorOpen st).transmit.seq st =
        (((s.begun.leftAtDoor st).rollOpened st).setMode st .unloaded).seq st := by
      rw [hopen]
      rfl
    rw [hseq, hrol, setMode_context, setMode_current]
    refine ⟨?_, ?_, fun id hid => ?_, fun c h p e r hc hreq hp he hh hst hfired hr hroom htable => ?_,
      fun r hr hlive => ?_⟩
    · simpa [State.seq] using leftAtDoor_context s.begun st
    · simpa [State.seq] using leftAtDoor_current s.begun st
    · rw [State.transmit_ord, hopen, State.setMode_ord, rollOpened_ord]
      exact (leftAtDoor_ord (s := s.begun) hid).trans (holdIfActive_ord_congr (s := s) (t := s.begun) rfl ..)
    · obtain ⟨y, hy, hsame⟩ := rollOpened_mem_frames (st := st)
        (leftAtDoor_spoiled (s := s.begun) hc hreq hp he hh hst hfired hr hroom htable)
      refine ⟨y, hy, ?_⟩
      rcases hsame with rfl | rfl <;> exact ⟨rfl, rfl, rfl, rfl⟩
    · obtain ⟨q, hq, hnumber, hstate⟩ := rollAt_of_standing (leftAtDoor_rolls s.begun st) (r := r) hr
      rw [← hnumber]
      exact rollOpened_rolls hq (hstate ▸ hlive)

end Sys2Proof.Machine
end

section
/-! SUPPORT. The shot plan: the tables of the silicon, the surplus, the power level and what is left of the surplus, and
PLAN_QUERY in the DIRECT and STATION forms (R54 to R65, R68, R69, R71). -/

namespace Sys2Proof.Machine

variable {mode : Rounding} {r : Int} {x : Nat}

/-! ### The tables (R54, R64) -/

theorem bellowsCorrection_le (m : Nat) : bellowsCorrection m ≤ 48 := by
  have hrows : ∀ row ∈ bellowsTable, row.2 ≤ 48 := by decide
  unfold bellowsCorrection
  cases hlast : (bellowsTable.filter fun row => decide (row.1 ≤ m)).getLast? with
  | none => simp
  | some row => exact hrows row (List.mem_of_mem_filter (List.mem_of_getLast? hlast))

theorem popEnergy_bounds (p : Nat) : 1 ≤ popEnergy p ∧ popEnergy p ≤ 64 := by
  have hrows : ∀ e ∈ energyTable, 1 ≤ e ∧ e ≤ 64 := by decide
  rw [popEnergy, List.getD_eq_getElem?_getD]
  cases hp : energyTable[p]? with
  | none => simp
  | some e => exact hrows e (List.mem_of_getElem? hp)

/-! ### The required exposure and the pops (R56 to R58) -/

theorem requiredExposure_bounds {i : PlanInputs} (hcal : -120 ≤ i.calibration ∧ i.calibration ≤ 120)
    (hsub : -48 ≤ i.subject ∧ i.subject ≤ 48) (hspeed : -9 ≤ i.speed ∧ i.speed ≤ 6) (hfilter : i.filter ≤ 48)
    (hoff : -36 ≤ i.offset ∧ i.offset ≤ 36) : -228 ≤ requiredExposure i ∧ requiredExposure i ≤ 336 := by
  have hbellows := bellowsCorrection_le i.magnification
  unfold requiredExposure
  omega

theorem two_pow_popExponent (r : Int) :
    2 ^ popExponent r = if r ≤ 0 then 1 else if r ≤ 11 then 2 else if r ≤ 22 then 4 else 8 := by
  unfold popExponent
  split_ifs <;> rfl

theorem popExponent_le (r : Int) : popExponent r ≤ 3 := by
  unfold popExponent
  split_ifs <;> decide

/-! ### The surplus (R58, R59) -/

theorem surplus_eq_some : surplus r = some x ↔ r ≤ 33 ∧ (x : Int) = 11 * popExponent r - r := by
  have hgives : r ≤ 33 → r ≤ 11 * (popExponent r : Int) := by
    unfold popExponent
    split_ifs <;> omega
  unfold surplus
  split
  · next h =>
    have := hgives h
    rw [Option.some.injEq]
    omega
  · next h => simp [h]

theorem surplus_eq_none : surplus r = none ↔ 34 ≤ r := by
  unfold surplus
  split <;> simp <;> omega

/-- More than one pop gives at most 10 twelfths too much, so a great surplus is that of a single pop. -/
theorem surplus_of_ge_eleven (hx : surplus r = some x) (h : 11 ≤ x) : (x : Int) = -r := by
  obtain ⟨hr, hx⟩ := surplus_eq_some.mp hx
  revert hx
  unfold popExponent
  split_ifs <;> omega

/-! ### The rounding of the level (R60, R63) -/

/-- What the rounded level leaves of a surplus of 4·q + m (R63). -/
def remainderDeviation (mode : Rounding) (q m : Nat) : Int :=
  match mode, m with
  | _, 0 => 0
  | .nearestEven, 1 => 1
  | .nearestEven, 2 => if q % 2 = 0 then 2 else -2
  | .nearestEven, _ => -1
  | .moreLight, k => (k : Int)
  | .lessLight, k => (k : Int) - 4

theorem remainderDeviation_nearestEven (q m : Nat) : remainderDeviation .nearestEven q m =
    if m = 0 then 0 else if m = 1 then 1 else if m = 2 then (if q % 2 = 0 then 2 else -2) else -1 := by
  match m with
  | 0 | 1 | 2 => rfl
  | _ + 3 => simp [remainderDeviation]

theorem remainderDeviation_moreLight (q m : Nat) : remainderDeviation .moreLight q m = m := by
  match m with
  | 0 | 1 | 2 | _ + 3 => rfl

theorem remainderDeviation_lessLight (q m : Nat) :
    remainderDeviation .lessLight q m = if m = 0 then 0 else (m : Int) - 4 := by
  match m with
  | 0 | 1 | 2 | _ + 3 => rfl

theorem sub_roundedLevel (mode : Rounding) (x : Nat) :
    (x : Int) - 4 * roundedLevel mode x = remainderDeviation mode (x / 4) (x % 4) := by
  cases mode with
  | nearestEven =>
    simp only [roundedLevel, remainderDeviation_nearestEven]
    split_ifs <;> omega
  | moreLight =>
    simp only [roundedLevel, remainderDeviation_moreLight]
    omega
  | lessLight =>
    simp only [roundedLevel, remainderDeviation_lessLight]
    split_ifs <;> omega

/-- The least surplus whose level lies beyond the table (R61). -/
def underSurplus : Rounding → Nat
  | .nearestEven => 86
  | .moreLight => 88
  | .lessLight => 85

theorem underSurplus_ge (mode : Rounding) : 85 ≤ underSurplus mode := by
  cases mode <;> decide

theorem roundedLevel_beyond : 21 < roundedLevel mode x ↔ underSurplus mode ≤ x := by
  cases mode with
  | nearestEven =>
    simp only [roundedLevel, underSurplus]
    split_ifs <;> omega
  | moreLight =>
    simp only [roundedLevel, underSurplus]
    omega
  | lessLight =>
    simp only [roundedLevel, underSurplus]
    split_ifs <;> omega

/-! ### The plan (R57 to R65) -/

/-- The power level before the clamp; full power where even eight pops fall short (R58, R60). -/
def unclampedLevel (mode : Rounding) (r : Int) : Nat :=
  match surplus r with
  | some x => roundedLevel mode x
  | none => 0

theorem unclampedLevel_some (hx : surplus r = some x) : unclampedLevel mode r = roundedLevel mode x := by
  simp only [unclampedLevel, hx]

theorem unclampedLevel_none (hx : surplus r = none) : unclampedLevel mode r = 0 := by
  simp only [unclampedLevel, hx]

theorem planOf_level (mode : Rounding) (r : Int) : (planOf mode r).level = min (unclampedLevel mode r) 21 := rfl

/-- The exposure of the pops at the level chosen (R62). -/
theorem planOf_achieved (mode : Rounding) (r : Int) :
    (planOf mode r).achieved = 11 * popExponent r - 4 * (planOf mode r).level := rfl

theorem planOf_deviation (mode : Rounding) (r : Int) : (planOf mode r).deviation = (planOf mode r).achieved - r := rfl

theorem planOf_overFlag (mode : Rounding) (r : Int) : (planOf mode r).overFlag = true ↔ 34 ≤ r :=
  decide_eq_true_iff

theorem planOf_underFlag (mode : Rounding) (r : Int) :
    (planOf mode r).underFlag = true ↔ 21 < unclampedLevel mode r :=
  decide_eq_true_iff

theorem planOf_level_le (mode : Rounding) (r : Int) : (planOf mode r).level ≤ 21 := Nat.min_le_right ..

theorem planOf_energy_bounds (mode : Rounding) (r : Int) :
    1 ≤ (planOf mode r).energy ∧ (planOf mode r).energy ≤ 512 := by
  obtain ⟨hlow, hhigh⟩ := popEnergy_bounds (planOf mode r).level
  have hpops : 2 ^ popExponent r ≤ 2 ^ 3 := Nat.pow_le_pow_right (by decide) (popExponent_le r)
  exact ⟨Nat.mul_pos (Nat.two_pow_pos _) hlow, Nat.mul_le_mul hpops hhigh⟩

theorem planOf_achieved_bounds (mode : Rounding) (r : Int) :
    -84 ≤ (planOf mode r).achieved ∧ (planOf mode r).achieved ≤ 33 := by
  have hlevel := planOf_level_le mode r
  have hk := popExponent_le r
  rw [planOf_achieved]
  omega

/-- The level lies beyond the table from the mode's threshold of R down (R61). -/
theorem planOf_underFlag_iff (mode : Rounding) (r : Int) :
    (planOf mode r).underFlag = true ↔ r ≤ -(underSurplus mode : Int) := by
  have hgreat := underSurplus_ge mode
  rw [planOf_underFlag]
  cases hx : surplus r with
  | none =>
    have hr := surplus_eq_none.mp hx
    rw [unclampedLevel_none hx]
    omega
  | some x =>
    have hone := surplus_of_ge_eleven hx
    have hle : -r ≤ x := by
      have := (surplus_eq_some.mp hx).2
      omega
    rw [unclampedLevel_some hx, roundedLevel_beyond]
    omega

/-- Settles O29: the inputs' ranges by the bellows table, the plan's figure by figure. -/
theorem everyPlanStaysInRange : Obligations.EveryPlanStaysInRange := by
  refine ⟨fun i hc hc' hs hs' hv hv' hf _ ho ho' =>
    ⟨rfl, requiredExposure_bounds ⟨hc, hc'⟩ ⟨hs, hs'⟩ ⟨hv, hv'⟩ hf ⟨ho, ho'⟩⟩, fun mode r => ?_⟩
  obtain ⟨hachieved, hachieved'⟩ := planOf_achieved_bounds mode r
  obtain ⟨henergy, henergy'⟩ := planOf_energy_bounds mode r
  refine ⟨rfl, two_pow_popExponent r, planOf_level_le mode r, hachieved, hachieved', rfl, rfl, henergy, henergy',
    planOf_overFlag mode r, ?_⟩
  cases mode <;> exact planOf_underFlag_iff _ r

/-- With the level on the table the deviation is what the rounding leaves of the surplus. -/
theorem planOf_deviation_eq (hunder : (planOf mode r).underFlag = false) (hx : surplus r = some x) :
    (planOf mode r).deviation = remainderDeviation mode (x / 4) (x % 4) := by
  have hlevel : (planOf mode r).level = roundedLevel mode x := by
    have hclamp := (planOf_underFlag mode r).not.mp (Bool.eq_false_iff.mp hunder)
    rw [planOf_level, Nat.min_eq_left (Nat.not_lt.mp hclamp), unclampedLevel_some hx]
  have hsurplus := (surplus_eq_some.mp hx).2
  rw [← sub_roundedLevel, planOf_deviation, planOf_achieved, hlevel]
  omega

theorem planOf_deviation_of_over (h : (planOf mode r).overFlag = true) : (planOf mode r).deviation ≤ -1 := by
  have hr := (planOf_overFlag mode r).mp h
  have hachieved := (planOf_achieved_bounds mode r).2
  rw [planOf_deviation]
  omega

theorem planOf_deviation_of_under (h : (planOf mode r).underFlag = true) : 1 ≤ (planOf mode r).deviation := by
  have hr : r ≤ -85 := by
    have hthreshold := (planOf_underFlag_iff mode r).mp h
    have hgreat := underSurplus_ge mode
    omega
  have hachieved := (planOf_achieved_bounds mode r).1
  rw [planOf_deviation]
  omega

/-- Settles O30. -/
theorem deviationFollowsFromRemainder : Obligations.DeviationFollowsFromRemainder := fun _ _ =>
  ⟨fun _ hunder _ hx => planOf_deviation_eq hunder hx, planOf_deviation_of_over, planOf_deviation_of_under⟩

/-! ### PLAN_QUERY (R68, R69, R71) -/

theorem answerPlanQueryStation_some {s : State} {st : Station} {f : PlanStationReq} {v : Int}
    (hst : stationOf? f.station = some st) (hf : planStationInRange f) (hv : s.speed? f.stock = some v) :
    answerPlanQueryStation f s = taken s (.plannedAt (bellowsCorrection (s.seq st).settings.magnification)
      (shotPlan (stationInputs (s.seq st).settings v f.filter f.subject f.offset))) := by
  simp only [answerPlanQueryStation, atStation_some hst, if_neg (not_not.mpr hf), hv]

theorem answerPlanQueryStation_noStock {s : State} {st : Station} {f : PlanStationReq}
    (hst : stationOf? f.station = some st) (hf : planStationInRange f) (hv : s.speed? f.stock = none) :
    answerPlanQueryStation f s = refuse s .notFound := by
  simp only [answerPlanQueryStation, atStation_some hst, if_neg (not_not.mpr hf), hv]

/-- Settles O32, refusal by refusal in each of the two forms. -/
theorem planQueryReportsThePlan : Obligations.PlanQueryReportsThePlan := by
  intro tag d f s ha c q
  constructor
  · split
    · next h => exact request_answers ha (if_pos h)
    · next h => exact request_answers ha (if_neg h)
  · split
    · next hst => exact request_answers ha (atStation_none hst _)
    · next st hst =>
      split
      · next h => exact request_answers ha ((atStation_some hst _).trans (if_pos h))
      · next h =>
        have hf : planStationInRange f := not_not.mp h
        split
        · next hv => exact request_answers ha (answerPlanQueryStation_noStock (s := s.asked) hst hf hv)
        · next v hv => exact request_answers ha (answerPlanQueryStation_some (s := s.asked) hst hf hv)

end Sys2Proof.Machine
end

section
/-! SUPPORT. The arbiter's choice, GEN_CLEAR, the ready input, cooling and the idle timer (R74, R76, R78, R79, R81 to R83,
R85, R86, R88). -/

namespace Sys2Proof.Machine

section

variable {s : State} {g : Gen} {x y : Station}

/-! ### How recent a station stands (R81) -/

theorem recency_granted (hx : x ∈ g.lastGrant) : g.recency x = 3 + g.lastGrant.idxOf x := by
  have hfind : g.lastGrant.findIdx? (fun z => z == x) = some (g.lastGrant.idxOf x) :=
    List.findIdx?_eq_some_of_exists ⟨x, hx, beq_self_eq_true x⟩
  simp only [Gen.recency, hfind]

/-- A station not granted since the reset stands at its place in the order A, B, D. -/
theorem recency_ungranted (hx : x ∉ g.lastGrant) : g.recency x = allStations.idxOf x := by
  have hfind : g.lastGrant.findIdx? (fun z => z == x) = none :=
    List.findIdx?_eq_none_iff.mpr fun z hz => beq_false_of_ne fun h => hx (h ▸ hz)
  simp only [Gen.recency, hfind]
  cases x <;> rfl

theorem idxOf_allStations_lt (x : Station) : allStations.idxOf x < 3 := by cases x <;> decide

theorem idxOf_allStations_lt_iff (x y : Station) :
    allStations.idxOf x < allStations.idxOf y ↔ (x = .a ∧ y ≠ .a) ∨ (x = .b ∧ y = .d) := by
  cases x <;> cases y <;> decide

theorem recency_ungranted_lt_granted (hx : x ∉ g.lastGrant) (hy : y ∈ g.lastGrant) : g.recency x < g.recency y := by
  rw [recency_ungranted hx, recency_granted hy]
  exact Nat.lt_add_right _ (idxOf_allStations_lt x)

theorem recency_lt_of_granted_before {before middle after : List Station}
    (hg : g.lastGrant = before ++ x :: middle ++ y :: after) (hx : x ∉ before) (hy : y ∉ before ++ x :: middle) :
    g.recency x < g.recency y := by
  have hplace : g.lastGrant.idxOf x = before.length := by
    rw [hg, List.append_assoc, List.idxOf_append_of_notMem hx, List.cons_append, List.idxOf_cons_self, Nat.add_zero]
  have hplace' : g.lastGrant.idxOf y = (before ++ x :: middle).length := by
    rw [hg, List.idxOf_append_of_notMem hy, List.idxOf_cons_self, Nat.add_zero]
  have hlength : before.length < (before ++ x :: middle).length := by simp
  rw [recency_granted (by simp [hg]), recency_granted (by simp [hg]), hplace, hplace']
  exact Nat.add_lt_add_left hlength 3

/-! ### The best request (R82) -/

/-- The standing of a request for the choice: its class first, and in its class the less recent the higher (R82). -/
def Gen.standing (g : Gen) (r : GenRequest) : ℕ ×ₗ ℕᵒᵈ := toLex (r.cls, OrderDual.toDual (g.recency r.station))

theorem standing_lt {r q : GenRequest} : g.standing q < g.standing r ↔ g.prefers r q = true := by
  simp [Gen.standing, Gen.prefers, Prod.Lex.toLex_lt_toLex]

theorem standing_le {r q : GenRequest} : g.standing q ≤ g.standing r ↔
    q.cls < r.cls ∨ (q.cls = r.cls ∧ g.recency r.station ≤ g.recency q.station) :=
  Prod.Lex.toLex_le_toLex

/-- The arbiter's walk along the request list finds the first request of highest standing. -/
theorem best_eq_argmax (g : Gen) : g.best = g.requests.argmax g.standing := by
  rw [Gen.best, List.argmax]
  congr 1
  funext acc r
  cases acc with
  | none => rfl
  | some q => simp only [List.argAux, standing_lt]

theorem exists_best (h : g.requests ≠ []) : ∃ r ∈ g.requests, g.best = some r ∧
    ∀ q ∈ g.requests, q.cls < r.cls ∨ (q.cls = r.cls ∧ g.recency r.station ≤ g.recency q.station) := by
  obtain ⟨r, hr⟩ := Option.ne_none_iff_exists'.mp (mt (List.argmax_eq_none (f := g.standing)).mp h)
  exact ⟨r, List.argmax_mem hr, (best_eq_argmax g).trans hr, fun q hq => standing_le.mp (List.le_of_mem_argmax hq hr)⟩

/-! ### The choice, a release and a withdrawal (R82, R85, R86) -/

theorem choose_of_best {r : GenRequest} (hm : s.gen.mode = .ready) (hh : s.gen.holder = none) (hc : s.gen.chosen = none)
    (hr : s.gen.best = some r) : s.choose = (s.modGen fun g => { g with chosen := some r.station }).testChosen := by
  simp only [State.choose, hm, hh, hc, hr, and_self, if_true]

theorem choose_of_unlisted (h : s.gen.requests = []) : s.choose = s := by
  have hbest : s.gen.best = none := by rw [Gen.best, h, List.foldl_nil]
  simp only [State.choose, hbest, ite_self]

theorem choose_of_engaged (h : s.gen.holder ≠ none ∨ s.gen.chosen ≠ none) : s.choose = s :=
  if_neg fun hg => h.elim (absurd hg.2.1) (absurd hg.2.2)

theorem releaseGrant_holder {st : Station} {h : Holder} (hh : s.gen.holder = some h) (hst : h.station = st) :
    s.releaseGrant st = (s.modGen fun g => { g with holder := none }).choose := by
  simp only [State.releaseGrant, hh, if_pos hst]

theorem releaseGrant_other {st : Station} (hst : ∀ h, s.gen.holder = some h → h.station ≠ st) :
    s.releaseGrant st = s := by
  cases hh : s.gen.holder with
  | none => simp only [State.releaseGrant, hh]
  | some h => simp only [State.releaseGrant, hh, if_neg (hst h hh)]

end

/-- Settles O37: the request of highest standing, how recent a station stands, a release and a withdrawal. -/
theorem arbiterChoosesHighestThenLeastRecent : Obligations.ArbiterChoosesHighestThenLeastRecent := by
  refine ⟨fun s => ⟨fun hm hh hc hlist => ?_, fun h => ?_⟩,
    fun g x y => ⟨recency_ungranted_lt_granted, fun hx hy => ?_, fun before middle after hg hx hy hy' hne => ?_⟩,
    fun st s => ⟨fun h => releaseGrant_holder, releaseGrant_other⟩, fun st s => rfl⟩
  · obtain ⟨r, hr, hbest, hfirst⟩ := exists_best hlist
    exact ⟨r, hr, choose_of_best hm hh hc hbest, hfirst⟩
  · rcases h with hm | hh | hc | hlist
    · exact choose_of_notReady hm
    · exact choose_of_engaged (.inl hh)
    · exact choose_of_engaged (.inr hc)
    · exact choose_of_unlisted hlist
  · rw [recency_ungranted hx, recency_ungranted hy, idxOf_allStations_lt_iff]
  · exact recency_lt_of_granted_before hg hx (by simp [hy, hy', hne.symm])

/-! ### GEN_CLEAR (R88) -/

/-- Settles O33, by its two conditions. -/
theorem genClearReturnsToOff : Obligations.GenClearReturnsToOff := by
  intro tag s ha c
  split_ifs with hm hf
  · exact request_answers ha (if_pos hm)
  · exact request_answers ha ((if_neg hm).trans (if_pos (Option.isSome_iff_ne_none.mpr hf)))
  · exact request_answers ha ((if_neg hm).trans (if_neg (mt Option.isSome_iff_ne_none.mp hf)))

/-! ### The ready input, cooling and the idle timer (R74, R76, R78, R79, R83) -/

section

variable {s : State}

theorem readyRises_charging (hm : s.gen.mode = .charging) :
    s.readyRises = (s.modGen fun g => { g with readyInput := true }).charged := if_pos hm

theorem charged_unheld (hh : s.gen.holder = none) :
    s.charged = (s.modGen fun g => { g with mode := .ready, chargeTimer := none }).choose := by
  simp only [State.charged, State.modGen, hh]

theorem charged_notAsked {h : Holder} (hh : s.gen.holder = some h) (hp : h.pending = none) :
    s.charged = s.modGen fun g => { g with mode := .ready, chargeTimer := none } := by
  obtain ⟨st, given, pending⟩ := h
  cases hp
  simp only [State.charged, State.modGen, hh]

theorem charged_asked {h : Holder} {p : Nat} (hh : s.gen.holder = some h) (hp : h.pending = some p) :
    s.charged = (s.modGen fun g => { g with mode := .ready, chargeTimer := none }).giveFire p := by
  obtain ⟨st, given, pending⟩ := h
  cases hp
  simp only [State.charged, State.modGen, hh]

theorem idleExpired_stopped (ht : s.gen.idleTimer = none) : s.idleExpired = s := by
  simp [State.idleExpired, ht]

theorem idleExpired_running (ht : s.gen.idleTimer ≠ none) : s.idleExpired =
    if s.gen.idle then
      (s.modGen fun g => { g with mode := .off, output := .safe, chargeTimer := none, idleTimer := none }).raiseGen
    else s.modGen fun g => { g with idleTimer := some Config.idleTimeout } :=
  if_pos (Option.isSome_iff_ne_none.mpr ht)

end

/-- Settles O34: the rise by what the holder has asked, the fall, the cooling expiry, and the idle expiry. -/
theorem readyInputAndTimersMoveTheGenerator : Obligations.ReadyInputAndTimersMoveTheGenerator := by
  intro s
  refine ⟨?_, ?_, event_does rfl, event_does ?_⟩
  · intro g
    split_ifs with hm
    · exact event_does (if_neg hm)
    · have hrise : s.begun.readyRises = (s.begun.modGen fun g => { g with readyInput := true }).charged :=
        readyRises_charging (not_not.mp hm)
      intro ready
      split
      · next hh => exact event_does (hrise.trans (charged_unheld hh))
      · next h hh =>
        split
        · next hp => exact event_does (hrise.trans (charged_notAsked hh hp))
        · next p hp => exact event_does (hrise.trans (.trans (charged_asked hh hp) (giveFire_held (s := ready) hh p)))
  · intro g
    split_ifs with hm
    · exact event_does (if_neg hm)
    · exact event_does (if_pos (not_not.mp hm))
  · split_ifs with ht hidle
    · exact idleExpired_stopped (s := s.begun) ht
    · exact (idleExpired_running (s := s.begun) ht).trans (if_pos hidle)
    · exact (idleExpired_running (s := s.begun) ht).trans (if_neg hidle)

end Sys2Proof.Machine
end

section
/-! SUPPORT. STOCK_SET, CULL and CLOSE_ROLL (R93, R112 to R114). -/

namespace Sys2Proof.Machine

section

variable {s : State}

/-! ### The stock table (R93) -/

theorem rollsOfStock_pos {code : Nat} : 0 < s.rollsOfStock code ↔ ∃ r ∈ s.rol.rolls, r.stock = code := by
  simp [State.rollsOfStock, List.length_pos_iff_exists_mem]

/-- An entry put into the stock table is the one of its code. -/
theorem find?_putStock_same (k : Stock) (l : List Stock) : ((putStock k l).find? fun x => x.code == k.code) = some k := by
  induction l with
  | nil => simp [putStock]
  | cons x l ih =>
    unfold putStock
    split
    · simp
    · split
      · simp
      · next hne => rw [List.find?_cons_of_neg (by simpa using Ne.symm hne), ih]

/-- An entry put into the stock table leaves the entries of the other codes. -/
theorem find?_putStock_other {k : Stock} {n : Nat} (h : n ≠ k.code) (l : List Stock) :
    ((putStock k l).find? fun x => x.code == n) = l.find? fun x => x.code == n := by
  have hk (l : List Stock) : ((k :: l).find? fun x => x.code == n) = l.find? fun x => x.code == n :=
    List.find?_cons_of_neg (by simpa using Ne.symm h)
  induction l with
  | nil => exact hk []
  | cons x l ih =>
    unfold putStock
    split
    · exact hk (x :: l)
    · split
      · next hx => rw [hk, List.find?_cons_of_neg (by simpa [← hx] using Ne.symm h)]
      · rw [List.find?_cons, List.find?_cons, ih]

/-- An entry removed from the stock table is gone. -/
theorem find?_removed_same (n : Nat) (l : List Stock) :
    ((l.filter fun x => !(x.code == n)).find? fun x => x.code == n) = none := by
  simp [List.find?_eq_none]

/-- An entry removed from the stock table leaves the entries of the other codes. -/
theorem find?_removed_other {m n : Nat} (h : n ≠ m) (l : List Stock) :
    ((l.filter fun x => !(x.code == m)).find? fun x => x.code == n) = l.find? fun x => x.code == n := by
  rw [List.find?_filter]
  refine congrArg (fun p => l.find? p) (funext fun x => ?_)
  by_cases hx : x.code = n
  · simp [hx, h]
  · simp [hx]

theorem answerStockSet_eq (f : StockSetReq) (s : State) : answerStockSet f s =
    if ¬ stockSetInRange f then refuse s .badField
    else if ∃ r ∈ s.rol.rolls, r.stock = f.code then refuse s .busy
    else taken (s.modRol fun t =>
      { t with stocks := putStock { code := f.code, speed := f.speed, name := f.name } t.stocks }) := by
  simp only [answerStockSet, rollsOfStock_pos]

theorem answerStockSetRemove_eq (g : StockReq) (s : State) : answerStockSetRemove g s =
    if g.code < 1 ∨ 15 < g.code then refuse s .badField
    else if s.speed? g.code = none then refuse s .notFound
    else if ∃ r ∈ s.rol.rolls, r.stock = g.code then refuse s .busy
    else taken (s.modRol fun t => { t with stocks := t.stocks.filter fun k => !(k.code == g.code) }) := by
  have hrange : (¬ within 1 15 g.code) = (g.code < 1 ∨ 15 < g.code) := by
    simp only [within, eq_iff_iff]
    omega
  simp only [answerStockSetRemove, rollsOfStock_pos, hrange, Option.isNone_iff_eq_none]

/-- Settles O39, condition by condition; the entries by the two kinds of code. -/
theorem stockSetReplacesOneEntry : Obligations.StockSetReplacesOneEntry := by
  intro tag f g s ha c d
  have hset := answerStockSet_eq f s.asked
  have hremove := answerStockSetRemove_eq g s.asked
  refine ⟨?_, ?_⟩
  · split_ifs with hrange hused
    · exact request_answers ha (hset.trans ((if_neg (not_not.mpr hrange)).trans (if_pos hused)))
    · exact ⟨_, request_answers ha (hset.trans ((if_neg (not_not.mpr hrange)).trans (if_neg hused))),
        find?_putStock_same ⟨f.code, f.speed, f.name⟩ s.rol.stocks,
        fun n hn => find?_putStock_other (k := ⟨f.code, f.speed, f.name⟩) hn s.rol.stocks⟩
    · exact request_answers ha (hset.trans (if_pos hrange))
  · split_ifs with hrange hnone hused
    · exact request_answers ha (hremove.trans (if_pos hrange))
    · exact request_answers ha (hremove.trans ((if_neg hrange).trans (if_pos hnone)))
    · exact request_answers ha (hremove.trans ((if_neg hrange).trans ((if_neg hnone).trans (if_pos hused))))
    · exact ⟨_, request_answers ha (hremove.trans ((if_neg hrange).trans ((if_neg hnone).trans (if_neg hused)))),
        find?_removed_same g.code s.rol.stocks, fun n hn => find?_removed_other hn s.rol.stocks⟩


/-! ### CULL (R112) -/

/-- A frame after a CULL has the verdict that the CULL gives it, or else its own. -/
theorem cullFrame_eq (f : CullReq) (x : Frame) : cullFrame f x =
    if x.roll = f.roll then { x with verdict := (cullVerdict f x.number).getD x.verdict } else x := by
  unfold cullFrame
  cases cullVerdict f x.number <;> rfl

/-- A frame that a CULL names changes where the verdict given is not the one it has. -/
theorem culled_changes {f : CullReq} {x : Frame} (h : x ∈ s.culled f) :
    ((cullFrame f x).verdict != x.verdict) = (cullVerdict f x.number != some x.verdict) := by
  simp only [State.culled, State.framesOf, List.mem_filter, beq_iff_eq, Option.isSome_iff_exists] at h
  obtain ⟨⟨-, hroll⟩, v, hv⟩ := h
  simp [cullFrame_eq, hroll, hv, bne]

theorem culled_eq (f : CullReq) (s : State) :
    s.culled f = s.rol.frames.filter fun x => x.roll == f.roll && (cullVerdict f x.number).isSome := by
  simp only [State.culled, State.framesOf, List.filter_filter, Bool.and_comm]

theorem answerCull_eq {f : CullReq} {r : Roll} (hr : s.roll? f.roll = some r) : answerCull f s =
    let named := s.rol.frames.filter fun x => x.roll == f.roll && (cullVerdict f x.number).isSome
    if ¬ (1 ≤ f.first ∧ f.first ≤ 250 ∧ 1 ≤ f.actions.length ∧ f.actions.length ≤ 32) then refuse s .badField
    else if r.state ≠ .out then refuse s .state
    else if r.next ≤ f.first + f.actions.length - 1 then refuse s .badField
    else if named.any (fun x => x.kind == .separator || x.kind == .recovery) then refuse s .badField
    else if named.any (fun x => x.label != .none || s.lbl.hasJobFor x.roll x.number) then refuse s .labelled
    else taken (State.testLabelled f.roll (s.labelled f.roll) { s with rol := { s.rol with
        frames := s.rol.frames.map fun x =>
          if x.roll = f.roll then { x with verdict := (cullVerdict f x.number).getD x.verdict } else x } })
      (.changed (named.filter fun x => cullVerdict f x.number != some x.verdict).length) := by
  have hchanged : (s.culled f).filter (fun x => (cullFrame f x).verdict != x.verdict) =
      (s.culled f).filter fun x => cullVerdict f x.number != some x.verdict :=
    List.filter_congr fun x hx => culled_changes hx
  have hframes : cullFrame f = fun x =>
      if x.roll = f.roll then { x with verdict := (cullVerdict f x.number).getD x.verdict } else x :=
    funext (cullFrame_eq f)
  simp only [answerCull, hr, hchanged, within, and_assoc, State.modRol, ← culled_eq]
  rw [hframes]

/-! ### CLOSE_ROLL (R16, R114) -/

/-- The first frame that keeps CLOSE_ROLL from closing the roll without FORCE; with FORCE there is none. -/
theorem find?_unsettled (force : Bool) (l : List Frame) :
    (if force then none else l.find? fun x => !x.settled) = l.find? fun x => !(force || x.settled) := by
  cases force with
  | false => rfl
  | true => exact (List.find?_eq_none.mpr fun x _ => by simp).symm

section

variable {g : CloseRollReq} {r : Roll}

theorem answerCloseRoll_unsettled {x : Frame} (hr : s.roll? g.roll = some r) (hout : ¬ r.state ≠ .out)
    (hjobs : ¬ s.lbl.jobs.any (fun j => j.roll == g.roll) = true)
    (hx : (s.framesOf g.roll).find? (fun x => !(g.force || x.settled)) = some x) :
    answerCloseRoll g s = refuse s .state (.firstFrame x.number) := by
  simp only [answerCloseRoll, hr, if_neg hout, if_neg hjobs, find?_unsettled, hx]

theorem answerCloseRoll_closes (hr : s.roll? g.roll = some r) (hout : ¬ r.state ≠ .out)
    (hjobs : ¬ s.lbl.jobs.any (fun j => j.roll == g.roll) = true)
    (hx : (s.framesOf g.roll).find? (fun x => !(g.force || x.settled)) = none) :
    let t := (s.ordersOnRoll g.roll).foldl (fun t id => t.freeOrder id) (s.freeRoll g.roll)
    answerCloseRoll g s =
      taken t (.closed (s.framesOf g.roll).length (s.ord.orders.length - t.ord.orders.length)) := by
  simp only [answerCloseRoll, hr, if_neg hout, if_neg hjobs, find?_unsettled, hx]
  rfl

end

/-- Settles O43, condition by condition. -/
theorem cullAndCloseRoll : Obligations.CullAndCloseRoll := by
  intro tag f g s ha c d
  refine ⟨?_, ?_⟩
  · split
    · next hrange => exact request_answers ha (if_pos (by simpa only [within, and_assoc] using hrange))
    · next hrange =>
      split
      · next hr => exact request_answers ha ((if_neg (by simpa only [within, and_assoc] using hrange)).trans (by
          simp only [State.asked_roll, hr, refuse]))
      · next r hr =>
        intro named
        have hcull := (answerCull_eq (s := s.asked) hr).trans (if_neg hrange)
        split_ifs with hout hnext hkind hlabel
        · exact request_answers ha (hcull.trans (if_pos hout))
        · exact request_answers ha (hcull.trans ((if_neg hout).trans (if_pos hnext)))
        · exact request_answers ha (hcull.trans ((if_neg hout).trans ((if_neg hnext).trans (if_pos hkind))))
        · exact request_answers ha (hcull.trans ((if_neg hout).trans ((if_neg hnext).trans ((if_neg hkind).trans
            (if_pos hlabel)))))
        · exact request_answers ha (hcull.trans ((if_neg hout).trans ((if_neg hnext).trans ((if_neg hkind).trans
            (if_neg hlabel)))))
  · split
    · next hr => exact request_answers ha (by simp [answerCloseRoll, hr, refuse])
    · next r hr =>
      split
      · next hout => exact request_answers ha (by simp [answerCloseRoll, hr, hout, refuse])
      · next hout =>
        split
        · next hjobs => exact request_answers ha (by simp [answerCloseRoll, hr, hout, hjobs, refuse])
        · next hjobs =>
          split
          · next x hx => exact request_answers ha (answerCloseRoll_unsettled (s := s.asked) hr hout hjobs hx)
          · next hx => exact request_answers ha (answerCloseRoll_closes (s := s.asked) hr hout hjobs hx)

end

end Sys2Proof.Machine
end

section
/-! SUPPORT. UNLOAD_EARLY, CONFIRM_ROLL and DECLARE_UNLOADED at a station with a roll in its back (R109, R116, R117). -/

namespace Sys2Proof.Machine

section

variable {s : State} {st : Station} {r : Roll} {n : Nat}

theorem answerUnloadEarly_eq (hn : stationOf? n = some st) (hr : s.rollAt st = some r) :
    answerUnloadEarly { station := n } s =
      if (s.seq st).mode ≠ .ready then refuse s .state
      else taken ((s.modRoll r.number Roll.truncate).takeRollEnd st) := by
  simp only [answerUnloadEarly, atStation_some hn, hr]

theorem answerDeclareUnloaded_eq (hn : stationOf? n = some st) (hr : s.rollAt st = some r) :
    answerDeclareUnloaded { station := n } s =
      if (s.seq st).mode ≠ .interrupted then refuse s .state
      else taken (((s.modDrive st Drive.stop).rollOut r.number st fun x =>
        { x.truncate with uncertainFrame := true }).setMode st .unloaded) := by
  have hroll : (s.modDrive st Drive.stop).rollAt st = some r := hr
  simp only [answerDeclareUnloaded, atStation_some hn, hroll]

/-! ### CONFIRM_ROLL by the roll's state (R116) -/

theorem answerConfirmRoll_notInterrupted (hn : stationOf? n = some st) (hm : (s.seq st).mode ≠ .interrupted) :
    answerConfirmRoll { station := n } s = refuse s .state :=
  (atStation_some hn _).trans (if_pos hm)

@[simp] theorem setMode_drive (s : State) (st : Station) (m : Mode) (x : Station) :
    (s.setMode st m).drive x = s.drive x := by simp [State.drive]

/-- Before the third leader frame the leader goes on with the next one (R102). -/
theorem leaderOn_unfinished (h : (s.drive st).leader < 3) :
    s.leaderOn st = (s.startMove st .leader).filmEndIfSeen st := if_pos h

section

variable (hn : stationOf? n = some st) (hm : (s.seq st).mode = .interrupted) (hr : s.rollAt st = some r)
include hn hm hr

theorem answerConfirmRoll_opened (hs : r.state = .interrupted .opened) : answerConfirmRoll { station := n } s =
    let u := s.modRoll r.number fun x => { x with state := .opened }
    if r.capacity < r.next then taken (u.takeRollEnd st)
    else if 1024 < s.rol.frames.length + s.rol.reserved + 1 then refuse s .full
    else taken (((u.recordFrame r .recovery none).startMove st .advance).filmEndIfSeen st) := by
  have hroom : (¬ s.rol.hasRoom 1) = (1024 < s.rol.frames.length + s.rol.reserved + 1) := by
    simp [Rol.hasRoom, Config.maxFrames]
  by_cases hend : r.capacity < r.next
  · simp [answerConfirmRoll, atStation_some hn, hm, hr, hs, hend, Nat.not_le.mpr hend]
  · simp only [answerConfirmRoll, atStation_some hn, hm, hr, hs, hroom, if_neg hend, if_pos (Nat.not_lt.mp hend), ne_eq,
      not_true_eq_false, if_false]

/-- The loading goes on with the first leader frame. -/
theorem answerConfirmRoll_loading (hs : r.state = .interrupted .loading) : answerConfirmRoll { station := n } s =
    taken (((((s.modRoll r.number fun x => { x with state := .loading }).modDrive st
      fun d => { d with leader := 0 }).setMode st .loading).startMove st .leader).filmEndIfSeen st) := by
  rw [← leaderOn_unfinished]
  · simp [answerConfirmRoll, atStation_some hn, hm, hr, hs]
  · simp

theorem answerConfirmRoll_rewinding (hs : r.state = .interrupted .rewinding) : answerConfirmRoll { station := n } s =
    taken (((s.modRoll r.number fun x => { x with state := .rewinding }).setMode st .ending).modDrive st
      Drive.startRewind) := by
  simp [answerConfirmRoll, atStation_some hn, hm, hr, hs]

theorem answerConfirmRoll_other (hs : ∀ x, r.state ≠ .interrupted x) : answerConfirmRoll { station := n } s = taken s := by
  cases hx : r.state with
  | interrupted x => exact absurd hx (hs x)
  | _ => simp [answerConfirmRoll, atStation_some hn, hm, hr, hx]

end

end

/-- Settles O41, by the station's state and the roll's. -/
theorem rollsFinishedConfirmedOrDeclared : Obligations.RollsFinishedConfirmedOrDeclared := by
  intro tag n st r s ha hn hr e c d
  have hearly := answerUnloadEarly_eq (s := s.asked) hn hr
  have hdeclare := answerDeclareUnloaded_eq (s := s.asked) hn hr
  refine ⟨?_, ?_⟩
  · split
    · next hm => exact request_answers ha (hearly.trans (if_pos hm))
    · next hm => exact request_answers ha (hearly.trans (if_neg hm))
  · split
    · next hm => exact ⟨request_answers ha (answerConfirmRoll_notInterrupted (s := s.asked) hn hm),
        request_answers ha (hdeclare.trans (if_pos hm))⟩
    · next hm =>
      have hinterrupted : (s.asked.seq st).mode = .interrupted := not_not.mp hm
      refine ⟨?_, request_answers ha (hdeclare.trans (if_neg hm))⟩
      split
      case h_1 hs =>
        have hopened := answerConfirmRoll_opened hn hinterrupted hr hs
        intro u
        split_ifs with hend hfull
        · exact request_answers ha (hopened.trans (if_pos hend))
        · exact request_answers ha (hopened.trans ((if_neg hend).trans (if_pos hfull)))
        · exact request_answers ha (hopened.trans ((if_neg hend).trans (if_neg hfull)))
      case h_2 hs => exact request_answers ha (answerConfirmRoll_loading hn hinterrupted hr hs)
      case h_3 hs => exact request_answers ha (answerConfirmRoll_rewinding hn hinterrupted hr hs)
      all_goals
        next hs => exact request_answers ha (answerConfirmRoll_other hn hinterrupted hr fun x => by simp [hs])

end Sys2Proof.Machine
end

section
/-! SUPPORT. The film tables by themselves: the number that LOAD gives, and the law of the tables under each change that is made
to them (R94, R96, R103, R105). -/

namespace Sys2Proof.Machine

/-! ### The number that LOAD gives (R96) -/

theorem rollNumberAfter_range (n : Nat) : 1 ≤ rollNumberAfter n ∧ rollNumberAfter n ≤ 9999 := by
  unfold rollNumberAfter
  split <;> omega

theorem freeRollNumber_range (fuel n : Nat) (used : List Nat) :
    1 ≤ freeRollNumber fuel n used ∧ freeRollNumber fuel n used ≤ 9999 := by
  induction fuel generalizing n with
  | zero => exact rollNumberAfter_range n
  | succ fuel ih =>
    unfold freeRollNumber
    split
    · exact ih _
    · exact rollNumberAfter_range n

/-- Counting on from a roll number goes through 1..9999 in a circle. -/
theorem rollNumberAfter_iterate {n : Nat} (hn : n ≤ 9999) (k : Nat) : rollNumberAfter^[k + 1] n = (n + k) % 9999 + 1 := by
  induction k with
  | zero =>
    simp only [Nat.zero_add, Function.iterate_one, rollNumberAfter]
    split <;> omega
  | succ k ih =>
    rw [Function.iterate_succ_apply', ih, rollNumberAfter]
    split <;> omega

/-- Where the search ends at a number in use, every number that it met is in use. -/
theorem mem_of_freeRollNumber_mem {fuel n : Nat} {used : List Nat} (h : freeRollNumber fuel n used ∈ used) :
    ∀ k ≤ fuel, rollNumberAfter^[k + 1] n ∈ used := by
  induction fuel generalizing n with
  | zero =>
    intro k hk
    rw [Nat.le_zero.mp hk]
    exact h
  | succ fuel ih =>
    unfold freeRollNumber at h
    split at h
    · next hfirst =>
      intro k hk
      cases k with
      | zero => exact hfirst
      | succ k => exact ih h k (Nat.le_of_succ_le_succ hk)
    · next hfirst => exact absurd h hfirst

/-- A search through more numbers than are in use ends at one that is not: the numbers it meets are distinct. -/
theorem freeRollNumber_not_mem {fuel n : Nat} {used : List Nat} (hn : n ≤ 9999) (hfuel : fuel < 9999)
    (hused : used.length ≤ fuel) : freeRollNumber fuel n used ∉ used := by
  intro h
  let met := (List.range (fuel + 1)).map fun k => rollNumberAfter^[k + 1] n
  have hdistinct : met.Nodup := List.Nodup.map_on (fun i hi j hj hij => by
    simp only [rollNumberAfter_iterate hn] at hij
    have := List.mem_range.mp hi
    have := List.mem_range.mp hj
    omega) List.nodup_range
  have hmet : met ⊆ used := fun m hm => by
    obtain ⟨k, hk, rfl⟩ := List.mem_map.mp hm
    exact mem_of_freeRollNumber_mem h k (Nat.le_of_lt_succ (List.mem_range.mp hk))
  have hlength : met.length ≤ used.length := (List.subperm_of_subset hdistinct hmet).length_le
  simp only [met, List.length_map, List.length_range] at hlength
  omega

/-- With at most 7 rolls present the number given is in range and carried by no roll (R96). -/
theorem nextNumber_free {t : Rol} (hrolls : t.rolls.length < 8) (hlast : t.lastRoll ≤ 9999) :
    1 ≤ t.nextNumber ∧ t.nextNumber ≤ 9999 ∧ ∀ r ∈ t.rolls, r.number ≠ t.nextNumber := by
  obtain ⟨hlow, hhigh⟩ := freeRollNumber_range t.rolls.length t.lastRoll (t.rolls.map Roll.number)
  refine ⟨hlow, hhigh, fun r hr he => ?_⟩
  exact freeRollNumber_not_mem hlast (by omega) (by simp) (List.mem_map.mpr ⟨r, hr, he⟩)

/-! ### The law of the film tables under a change of one of them (R94, R103) -/

section

variable {s t : State}

/-- The law reads the film tables alone. -/
theorem FilmLawful.of_rol (h : FilmLawful s) (e : t.rol = s.rol) : FilmLawful t := by
  unfold FilmLawful
  rw [e]
  exact h

/-- A change of the rolls one by one that keeps their numbers and no roll's frames past its capacity, with the records within
the frame table. -/
theorem FilmLawful.of_map {g : Roll → Roll} (h : FilmLawful s) (hrolls : t.rol.rolls = s.rol.rolls.map g)
    (hlast : t.rol.lastRoll = s.rol.lastRoll) (hnumber : ∀ r, (g r).number = r.number)
    (hrange : ∀ r ∈ s.rol.rolls, r.next - 1 ≤ r.capacity → (g r).next - 1 ≤ (g r).capacity)
    (hrecords : t.rol.frames.length + t.rol.reserved ≤ 1024) : FilmLawful t := by
  obtain ⟨hdistinct, hcount, hlast', hrolls', -⟩ := h
  refine ⟨?_, by rwa [hrolls, List.length_map], by rwa [hlast], fun r hr => ?_, hrecords⟩
  · rw [hrolls, List.pairwise_map]
    simpa only [hnumber] using hdistinct
  · rw [hrolls] at hr
    obtain ⟨x, hx, rfl⟩ := List.mem_map.mp hr
    obtain ⟨hn, hc⟩ := hrolls' x hx
    exact ⟨(hnumber x).symm ▸ hn, hrange x hx hc⟩

/-- With the rolls as they were the law asks for the records within the frame table. -/
theorem FilmLawful.of_rolls (h : FilmLawful s) (hrolls : t.rol.rolls = s.rol.rolls)
    (hlast : t.rol.lastRoll = s.rol.lastRoll) (hrecords : t.rol.frames.length + t.rol.reserved ≤ 1024) :
    FilmLawful t :=
  h.of_map (g := id) (by rw [hrolls, List.map_id]) hlast (fun _ => rfl) (fun _ _ hc => hc) hrecords

theorem FilmLawful.records (h : FilmLawful s) : s.rol.frames.length + s.rol.reserved ≤ 1024 := by
  obtain ⟨-, -, -, -, hrecords⟩ := h
  exact hrecords

theorem FilmLawful.lastRoll_le (h : FilmLawful s) : s.rol.lastRoll ≤ 9999 := by
  obtain ⟨-, -, hlast, -, -⟩ := h
  exact hlast

/-- A change of a roll that keeps its number and its frames within its capacity. -/
theorem FilmLawful.modRoll {n : Nat} {f : Roll → Roll}
    (hf : ∀ r, (f r).number = r.number ∧ (r.next - 1 ≤ r.capacity → (f r).next - 1 ≤ (f r).capacity))
    (h : FilmLawful s) : FilmLawful (s.modRoll n f) := by
  refine h.of_map (g := fun r => if r.number == n then f r else r) rfl rfl (fun r => ?_) (fun r _ hc => ?_) h.records
  · split
    · exact (hf r).1
    · rfl
  · split
    · exact (hf r).2 hc
    · exact hc

/-- A new state of a roll touches neither its number nor its frames. -/
theorem FilmLawful.setRollState {n : Nat} {x : RollState} (h : FilmLawful s) :
    FilmLawful (s.modRoll n fun r => { r with state := x }) := h.modRoll fun _ => ⟨rfl, id⟩

/-- A truncated roll has as many frames as its capacity (R107). -/
theorem FilmLawful.truncate {n : Nat} (h : FilmLawful s) : FilmLawful (s.modRoll n Roll.truncate) :=
  h.modRoll fun _ => ⟨rfl, fun _ => le_rfl⟩

/-- Frame records changed one by one are as many as before. -/
theorem FilmLawful.modFrame {n k : Nat} {f : Frame → Frame} (h : FilmLawful s) : FilmLawful (s.modFrame n k f) :=
  h.of_rolls rfl rfl (by simpa [State.modFrame] using h.records)

theorem FilmLawful.reserveRecords {k : Nat} (hroom : s.rol.hasRoom k) (h : FilmLawful s) :
    FilmLawful (s.reserveRecords k) :=
  h.of_rolls rfl rfl ((Nat.add_assoc ..).symm.le.trans hroom)

theorem FilmLawful.returnRecords {k : Nat} (h : FilmLawful s) : FilmLawful (s.returnRecords k) :=
  h.of_rolls rfl rfl ((Nat.add_le_add_left (Nat.sub_le ..) _).trans h.records)

/-- Rolls of the same number are the same. -/
theorem FilmLawful.roll_eq {r x : Roll} (h : FilmLawful s) (hr : r ∈ s.rol.rolls) (hx : x ∈ s.rol.rolls)
    (e : x.number = r.number) : x = r := by
  obtain ⟨hdistinct, -⟩ := h
  exact List.inj_on_of_nodup_map (List.pairwise_map.mpr hdistinct) hx hr e

/-- Recording a frame on a roll of the table: the guard of the recording leaves a frame of the roll for it, and a RECOVERY
frame finds a free record (R103, R105). -/
theorem FilmLawful.recordFrame {r : Roll} {kind : FrameKind} {e : Option Exposure} (hr : r ∈ s.rol.rolls)
    (hroom : kind = .recovery → s.rol.frames.length + s.rol.reserved < 1024) (h : FilmLawful s) :
    FilmLawful (s.recordFrame r kind e) := by
  have hrecords := Rol.record_bounded r kind e s.stamp s.rol h.records hroom
  by_cases hnext : r.next ≤ r.capacity ∧ s.rol.frames.length < Config.maxFrames
  · refine h.of_map (g := fun x => if x.number == r.number then { x with next := x.next + 1 } else x) ?_ ?_ (fun x => ?_)
      (fun x hx hc => ?_) hrecords
    · simp only [State.recordFrame, State.modRol_rol, Rol.record, if_pos hnext, updateWhere]
    · simp only [State.recordFrame, State.modRol_rol, Rol.record, if_pos hnext]
    · split <;> rfl
    · split
      · next hsame =>
        rw [h.roll_eq hr hx (beq_iff_eq.mp hsame)]
        exact hnext.1
      · exact hc
  · refine h.of_rol ?_
    simp only [State.recordFrame, State.modRol, Rol.record, if_neg hnext]

theorem rollAt_mem {st : Station} {r : Roll} (h : s.rollAt st = some r) : r ∈ s.rol.rolls := List.mem_of_find?_eq_some h

end

end Sys2Proof.Machine
end

section
/-! SUPPORT. The law of the film tables at a station: its settling, its roll's end, its announces, its frames, the end of its
moves and its door (R22 to R49, R87, R94, R98 to R110, R187, R190). One lemma per operation that touches the tables,
`FilmLawful.<operation>`; an operation that leaves them alone is passed by `FilmLawful.of_rol`. -/

namespace Sys2Proof.Machine

variable {s : State} {st : Station}

/-! ### Settling and roll ends (R26, R38, R47, R107, R108) -/

theorem FilmLawful.setMode {m : Mode} (h : FilmLawful s) : FilmLawful (s.setMode st m) := h.of_rol (by simp)

theorem FilmLawful.holdCurrent {reason : HoldReason} (h : FilmLawful s) : FilmLawful (s.holdCurrent st reason) :=
  h.of_rol (by simp)

theorem FilmLawful.settle (h : FilmLawful s) : FilmLawful (s.settle st) := by
  cases hc : (s.seq st).context with
  | none => exact h.of_rol (by rw [settle_none hc])
  | some c => exact (h.returnRecords (k := c.records)).of_rol (settle_rol hc)

theorem FilmLawful.leaveOrder (h : FilmLawful s) : FilmLawful (s.leaveOrder st) := h.settle

theorem FilmLawful.endItemFirst (h : FilmLawful s) : FilmLawful (s.endItemFirst st) := by
  have hended (id n : Nat) : FilmLawful ((s.endItem st id n .done).settle st) := .settle <| h.of_rol (by simp)
  simp only [State.endItemFirst]
  split
  · next c _ =>
    split
    · exact h
    · split
      · exact hended c.order c.item
      · exact (hended c.order c.item).of_rol (by simp)
  · exact h

theorem FilmLawful.endTaken (h : FilmLawful s) : FilmLawful (s.endTaken st) :=
  FilmLawful.setMode <| FilmLawful.leaveOrder <| .holdCurrent <| .endItemFirst h

theorem takeRollEnd_none (hr : s.rollAt st = none) : s.takeRollEnd st = s.endTaken st := by
  have h : (s.endTaken st).rollAt st = none := (rollAt_of_rolls (endTaken_rolls s st) st).trans hr
  rw [State.endTaken] at h ⊢
  simp only [State.takeRollEnd, h]

theorem FilmLawful.rollFull {r : Roll} (h : FilmLawful s) : FilmLawful (s.rollFull r st) :=
  h.setRollState (n := r.number) (x := .full)

theorem FilmLawful.takeRollEnd (h : FilmLawful s) : FilmLawful (s.takeRollEnd st) := by
  cases hr : s.rollAt st with
  | none => exact takeRollEnd_none hr ▸ h.endTaken
  | some r =>
    cases hb : r.back with
    | cassette => exact takeRollEnd_cassette hr hb ▸ h.endTaken.setRollState (n := r.number) (x := .rewinding)
    | bulk => exact takeRollEnd_bulk hr hb ▸ .setMode h.endTaken.rollFull

theorem FilmLawful.recordFilmEnd (h : FilmLawful s) : FilmLawful (s.recordFilmEnd st) := by
  unfold State.recordFilmEnd
  split
  · split
    · exact h
    · exact h.modRoll fun _ => ⟨rfl, fun _ => le_rfl⟩
  · exact h

theorem FilmLawful.filmEnd (h : FilmLawful s) : FilmLawful (s.filmEnd st) := by
  simp only [State.filmEnd]
  have hr : FilmLawful ((s.modDrive st Drive.stop).recordFilmEnd st) := .recordFilmEnd h
  split
  · split
    · exact .takeRollEnd hr
    · exact .takeRollEnd <| .leaveOrder <| .holdCurrent hr
  · split
    · exact hr.of_rol (by simp)
    · exact .takeRollEnd hr
  · exact .takeRollEnd hr

theorem FilmLawful.filmEndIfSeen (h : FilmLawful s) : FilmLawful (s.filmEndIfSeen st) := by
  unfold State.filmEndIfSeen
  split
  · exact .filmEnd h
  · exact h

theorem FilmLawful.keepHeld {id : Nat} {reason : HoldReason} {hold : StationHold} (h : FilmLawful s) :
    FilmLawful (s.keepHeld st id reason hold) := h.of_rol (by simp)

/-! ### Announcing, taking an order, dispatch (R8, R27 to R30, R103) -/

/-- An announce reserves the records that its third condition has found room for. -/
theorem FilmLawful.makeAnnounce {o : Order} {i : Item} {rates : RateSnapshot}
    (hroom : s.rol.hasRoom (newContext o i rates).records) (h : FilmLawful s) :
    FilmLawful (s.makeAnnounce st o i rates) :=
  (h.reserveRecords hroom).of_rol (by simp [State.makeAnnounce])

theorem FilmLawful.tryAnnounce {o : Order} {i : Item} (h : FilmLawful s) : FilmLawful (s.tryAnnounce st o i) := by
  simp only [State.tryAnnounce]
  split
  · exact h
  · split
    · exact .takeRollEnd h.truncate
    · split
      · exact .keepHeld h
      · next hroom =>
        split
        · exact .keepHeld h
        · split
          · exact .makeAnnounce (not_not.mp hroom) h
          · exact .keepHeld h

/-- A separator frame is recorded in the record reserved for it. -/
theorem FilmLawful.advanceSeparator {o : Order} (h : FilmLawful s) : FilmLawful (s.advanceSeparator st o) := by
  simp only [State.advanceSeparator]
  split
  · exact h
  · next r hr =>
    split
    · exact .takeRollEnd h.truncate
    · split
      · exact .keepHeld h
      · next hroom =>
        have hreserved : FilmLawful ((s.reserveRecords 1).setMode st .separating) :=
          .setMode <| h.reserveRecords (not_not.mp hroom)
        have hmem : r ∈ ((s.reserveRecords 1).setMode st .separating).rol.rolls := by
          rw [State.setMode_rol]
          exact rollAt_mem hr
        exact .filmEndIfSeen <| hreserved.recordFrame (kind := .separator) (e := none) hmem nofun

/-- A run that keeps the law of the film tables. -/
def KeepsFilm (f : State → State) : Prop := ∀ s : State, FilmLawful s → FilmLawful (f s)

theorem KeepsFilm.announceFrom {again : State → State} (ha : KeepsFilm again) (fuel : Nat) (st : Station) :
    KeepsFilm (announceFrom again fuel st) := by
  induction fuel with
  | zero => exact fun s h => h
  | succ fuel ih =>
    intro s h
    simp only [Machine.announceFrom]
    split
    · exact h
    · split
      · exact ha _ (h.of_rol (by simp))
      · split
        · exact ih _ (h.of_rol (by simp))
        · exact .tryAnnounce h

theorem KeepsFilm.takeOrder {again : State → State} (ha : KeepsFilm again) (st : Station) (o : Order) :
    KeepsFilm (State.takeOrder again st o) := by
  intro s h
  simp only [State.takeOrder]
  split
  · exact .advanceSeparator h
  · exact ha.announceFrom _ st _ h

theorem KeepsFilm.giveBack {again : State → State} (ha : KeepsFilm again) (st : Station) :
    KeepsFilm (State.giveBack again st) := by
  intro s h
  unfold State.giveBack
  split
  · split
    · exact ha.takeOrder st _ s h
    · exact h
  · exact h

theorem KeepsFilm.offer {again : State → State} (ha : KeepsFilm again) (st : Station) :
    KeepsFilm (State.offer again st) := by
  intro s h
  unfold State.offer
  split
  · split
    · exact ha.takeOrder st _ s h
    · exact h
  · exact h

theorem KeepsFilm.dispatchRun {again : State → State} (ha : KeepsFilm again) : KeepsFilm (dispatchRun again) :=
  fun s h =>
    ha.offer .d _ <| ha.offer .b _ <| ha.offer .a _ <| ha.giveBack .d _ <| ha.giveBack .b _ <| ha.giveBack .a s h

theorem dispatchTo_keepsFilm (depth : Nat) : KeepsFilm (dispatchTo depth) := by
  induction depth with
  | zero => exact fun s h => h
  | succ depth ih => exact ih.dispatchRun

theorem FilmLawful.dispatch (h : FilmLawful s) : FilmLawful s.dispatch := dispatchTo_keepsFilm _ s h

theorem FilmLawful.announce (h : FilmLawful s) : FilmLawful (s.announce State.dispatch st) :=
  KeepsFilm.announceFrom (fun _ => .dispatch) _ st s h

theorem FilmLawful.becomeReady (h : FilmLawful s) : FilmLawful (s.becomeReady st) := .dispatch <| .setMode h

/-! ### The frame sequence at a station (R31 to R49, R87) -/

theorem FilmLawful.genFaultUnfired (h : FilmLawful s) : FilmLawful (s.genFaultUnfired st) := by
  have hl : FilmLawful ((s.holdCurrent st .generator).leaveOrder st) := .leaveOrder <| .holdCurrent h
  simp only [State.genFaultUnfired]
  split
  · exact .becomeReady hl
  · exact hl

theorem FilmLawful.placeRequest {cls energy : Nat} (h : FilmLawful s) : FilmLawful (s.placeRequest st cls energy) := by
  unfold State.placeRequest
  split
  · exact .genFaultUnfired h
  · exact h.of_rol (by simp)

theorem FilmLawful.claim {early : Bool} (h : FilmLawful s) : FilmLawful (s.claim early st) := by
  simp only [State.claim]
  split
  · split
    · cases early with
      | true => exact .placeRequest h
      | false => exact .placeRequest <| FilmLawful.setMode (s := s.modContext st _) h
    · exact h
  · exact h

theorem FilmLawful.beginEntry (h : FilmLawful s) : FilmLawful (s.beginEntry st) := by
  unfold State.beginEntry
  split
  · exact h
  · split
    · exact FilmLawful.claim (s := s.takeSlot st) h
    · split
      · exact .setMode h
      · exact .keepHeld <| .settle h

theorem FilmLawful.earlyRequest (h : FilmLawful s) : FilmLawful (s.earlyRequest st) := by
  unfold State.earlyRequest
  split
  · exact h
  · split
    · exact FilmLawful.claim (s := s.takeSlot st) h
    · exact h

theorem FilmLawful.advance {early : Bool} (h : FilmLawful s) : FilmLawful (s.advance early st) := by
  have hm : FilmLawful ((s.startMove st .advance).setMode st .advancing) := .setMode h
  cases early with
  | true => exact .filmEndIfSeen <| .earlyRequest hm
  | false => exact .filmEndIfSeen hm

theorem FilmLawful.recordShot {kind : FrameKind} (hk : kind ≠ .recovery) (h : FilmLawful s) :
    FilmLawful (s.recordShot st kind) := by
  unfold State.recordShot
  split
  · next r e hr _ => exact h.recordFrame (e := some e) (rollAt_mem hr) (absurd · hk)
  · exact h

theorem FilmLawful.endGrant (h : FilmLawful s) : FilmLawful (s.endGrant st) := h.of_rol (by simp)

theorem FilmLawful.dropSlot (h : FilmLawful s) : FilmLawful (s.dropSlot st) := h.of_rol (by simp)

theorem FilmLawful.completeEntry (h : FilmLawful s) : FilmLawful (s.completeEntry st) := by
  have hr : FilmLawful ((s.endGrant st).recordShot st .exposed) := .recordShot nofun <| .endGrant h
  simp only [State.completeEntry]
  split
  · exact .advance <| hr.of_rol (by simp)
  · exact h

theorem FilmLawful.spoilAndLeave (h : FilmLawful s) : FilmLawful (s.spoilAndLeave st) :=
  .advance <| .leaveOrder <| .recordShot nofun h

theorem FilmLawful.misfire (h : FilmLawful s) : FilmLawful (s.misfire st) := by
  have hspoiled {t : State} (ht : FilmLawful t) : FilmLawful (((t.endGrant st).recordShot st .spoiled).dropSlot st) :=
    .dropSlot <| .recordShot nofun <| .endGrant ht
  simp only [State.misfire]
  split
  · split
    · exact .advance <| hspoiled <| h.of_rol (by simp)
    · exact .advance <| hspoiled h
  · exact h

theorem FilmLawful.confirmPop (h : FilmLawful s) : FilmLawful (s.confirmPop st) := by
  simp only [State.confirmPop]
  split
  · split
    · exact h.of_rol (by simp)
    · exact .completeEntry h
  · exact h

theorem FilmLawful.popReport {act : State → State} (hact : KeepsFilm act) (h : FilmLawful s) :
    FilmLawful (s.popReport st act) := by
  simp only [State.popReport]
  split
  · exact h
  · exact hact _ h
  · exact .spoilAndLeave <| .endGrant h
  · exact h.of_rol (by simp)

theorem FilmLawful.genFaultHolder {given : Nat} (h : FilmLawful s) : FilmLawful (s.genFaultHolder st given) := by
  simp only [State.genFaultHolder]
  split
  · exact h
  · split
    · exact .spoilAndLeave h
    · exact .becomeReady <| .leaveOrder h
  all_goals
    split
    · exact .spoilAndLeave <| .holdCurrent h
    · exact .genFaultUnfired h

theorem FilmLawful.genFaultWaiting {listed : List GenRequest} (h : FilmLawful s) :
    FilmLawful (s.genFaultWaiting listed st) := by
  unfold State.genFaultWaiting
  split
  · exact .genFaultUnfired h
  · exact h

theorem FilmLawful.enterGenFault (h : FilmLawful s) : FilmLawful s.enterGenFault := by
  simp only [State.enterGenFault]
  split
  · exact .genFaultWaiting <| .genFaultWaiting <| .genFaultWaiting <| .genFaultHolder h
  · exact .genFaultWaiting <| .genFaultWaiting <| .genFaultWaiting h

theorem FilmLawful.leave (h : FilmLawful s) : FilmLawful (s.leave st) := by
  unfold State.leave
  split
  case h_6 =>
    split
    · split
      · exact .spoilAndLeave <| FilmLawful.endGrant h
      · exact h
    · exact .becomeReady <| .leaveOrder h
  case h_1 | h_2 => exact .becomeReady <| .leaveOrder h
  case h_3 | h_4 | h_5 => exact .leaveOrder h
  all_goals exact h

/-! ### The end of a move, recovery, the door (R37, R38, R48, R98 to R102, R110, R187, R190) -/

theorem FilmLawful.rest (h : FilmLawful s) : FilmLawful (s.rest st) := by
  unfold State.rest
  split
  · exact .takeRollEnd h
  · exact .becomeReady h

theorem FilmLawful.itemOver {c : ItemContext} (h : FilmLawful s) : FilmLawful (s.itemOver st c) := by
  have he : FilmLawful ((s.endItem st c.order c.item .done).settle st) := .settle <| h.of_rol (by simp)
  simp only [State.itemOver]
  split
  · split
    · exact .takeRollEnd he
    · exact .announce he
  · exact .rest <| he.of_rol (by simp)

theorem FilmLawful.advanceOver (h : FilmLawful s) : FilmLawful (s.advanceOver st) := by
  unfold State.advanceOver
  split
  · exact h.of_rol (by simp)
  · split
    · exact .rest h
    · split
      · exact .itemOver h
      · split
        · exact .takeRollEnd h
        · split
          · exact h.of_rol (by simp)
          · exact h.of_rol (by simp)
          · exact .beginEntry h

theorem FilmLawful.leaderOn (h : FilmLawful s) : FilmLawful (s.leaderOn st) := by
  unfold State.leaderOn
  split
  · exact .filmEndIfSeen h
  · split
    · exact .becomeReady h.setRollState
    · exact h

theorem FilmLawful.leaderOver (h : FilmLawful s) : FilmLawful (s.leaderOver st) := .leaderOn h

theorem FilmLawful.recovered (h : FilmLawful s) : FilmLawful (s.recovered st) :=
  .rest <| FilmLawful.leaveOrder <| .holdCurrent h

theorem FilmLawful.pullOver (h : FilmLawful s) : FilmLawful (s.pullOver st) := by
  unfold State.pullOver
  split
  · exact .leaderOver <| .setMode h
  · exact .recovered h

theorem FilmLawful.moveOver {m : Move} (h : FilmLawful s) : FilmLawful (s.moveOver st m) := by
  cases m with
  | leader => exact .leaderOver h
  | recovery => exact .pullOver h
  | rewind => exact h
  | advance =>
    simp only [State.moveOver]
    split
    · split
      · exact .rest h
      · exact .announce h
    · exact .advanceOver h
    · exact .rest h

theorem FilmLawful.jam {m : Move} (h : FilmLawful s) : FilmLawful (s.jam st m) := by
  simp only [State.jam]
  split
  · exact h.of_rol (by simp)
  · split <;> exact h.of_rol (by simp)

theorem FilmLawful.recover (h : FilmLawful s) : FilmLawful (s.recover st) := by
  unfold State.recover
  split
  · split
    · exact .filmEndIfSeen h
    · split
      · exact h.of_rol (by simp)
      · exact .recovered h
      · exact h
      · exact h
  · exact h

theorem FilmLawful.spoilAtDoor (h : FilmLawful s) : FilmLawful (s.spoilAtDoor st) := by
  unfold State.spoilAtDoor
  split
  · split
    · exact .recordShot nofun h
    · exact h
  · exact h

/-- A roll becomes OUT with a change that keeps its number and its frames within its capacity (R110, R117). -/
theorem FilmLawful.rollOut {n : Nat} {f : Roll → Roll}
    (hf : ∀ r, (f r).number = r.number ∧ (r.next - 1 ≤ r.capacity → (f r).next - 1 ≤ (f r).capacity))
    (h : FilmLawful s) : FilmLawful (s.rollOut n st f) :=
  (h.modRoll (n := n) (f := fun r => { f r with state := .out, station := none }) hf).of_rol (rollOut_rol ..)

theorem FilmLawful.rollOpened (h : FilmLawful s) : FilmLawful (s.rollOpened st) := by
  unfold State.rollOpened
  split
  · exact h
  · next r _ =>
    split
    · exact h.rollOut fun _ => ⟨rfl, id⟩
    · have hframes : FilmLawful (s.modRol fun t =>
          { t with frames := updateWhere (fun f => f.roll == r.number) (fun f => { f with suspect := true }) t.frames }) :=
        h.of_rolls rfl rfl (by simpa using h.records)
      exact hframes.rollOut fun _ => ⟨rfl, fun _ => le_rfl⟩

theorem FilmLawful.doorOpen (h : FilmLawful s) : FilmLawful (s.doorOpen st) := by
  simp only [State.doorOpen]
  split
  · exact h
  · exact .setMode <| .rollOpened h
  · exact .setMode <| .rollOpened <| FilmLawful.leaveOrder <| .holdCurrent <| .spoilAtDoor h

end Sys2Proof.Machine
end

section
/-! SUPPORT. The law of the film tables under the label path, under every request and every event, so under every step (R94,
R96, R103, R150, R167, R178, R197). -/

namespace Sys2Proof.Machine

section

variable {s : State} {st : Station}

/-! ### The label path and the printer's reports (R150 to R153, R162 to R182) -/

theorem State.postMount_rol (roll frame : Nat) (s : State) : (s.postMount roll frame).rol = s.rol := by
  simp only [State.postMount, State.appendEntry_rol]
  split <;> simp

theorem handBackSlots_rol (xs : List InFlight) (s : State) : (handBackSlots xs s).rol = s.rol := by
  induction xs generalizing s with
  | nil => rfl
  | cons x xs ih =>
    simp only [handBackSlots, List.foldl_cons] at ih ⊢
    rw [ih]
    split <;> simp

theorem State.returnAll_rol (s : State) : s.returnAll.rol = s.rol :=
  (examineHead_keeps _).rol.trans (handBackSlots_rol _ _)

theorem FilmLawful.attempt (h : FilmLawful s) : FilmLawful s.attempt := h.of_rol (attempt_keeps s).rol

theorem FilmLawful.examine (h : FilmLawful s) : FilmLawful s.examine := h.of_rol (examine_keeps s).rol

theorem FilmLawful.examineNew {had : Bool} (h : FilmLawful s) : FilmLawful (s.examineNew had) := by
  cases had
  · exact .examine h
  · exact h

theorem FilmLawful.queueJob {f : Frame} {charge : Bool} (h : FilmLawful s) : FilmLawful (s.queueJob f charge) := by
  have hf : FilmLawful (if (s.orderOf f).isSome then s else s.useFree) := by split <;> exact h
  exact FilmLawful.modFrame (s := State.modLbl _ _) hf

theorem FilmLawful.framePrinted {roll frame : Nat} (h : FilmLawful s) : FilmLawful (s.framePrinted roll frame) :=
  (h.modFrame (n := roll) (k := frame) (f := fun f => { f with label := .printed })).of_rol
    (by simp [State.framePrinted])

theorem FilmLawful.completeOldest (h : FilmLawful s) : FilmLawful s.completeOldest := by
  unfold State.completeOldest
  split
  · exact h
  · extract_lets charged t
    have ht : FilmLawful t := .framePrinted h
    refine ht.of_rol ?_
    rw [State.removeSent, State.modLbl_rol]
    split
    · exact State.postMount_rol ..
    · rfl

theorem FilmLawful.completeMany (n : Nat) (h : FilmLawful s) : FilmLawful (completeMany n s) := by
  induction n generalizing s with
  | zero => exact h
  | succ n ih => exact ih (.completeOldest h)

theorem FilmLawful.returnAll (h : FilmLawful s) : FilmLawful s.returnAll := h.of_rol s.returnAll_rol

theorem FilmLawful.markRisk (xs : List InFlight) (h : FilmLawful s) : FilmLawful (s.markRisk xs) := by
  induction xs generalizing s with
  | nil => exact h
  | cons x xs ih => exact ih (.modFrame h)

theorem FilmLawful.settleJobs {named : Nat} (h : FilmLawful s) : FilmLawful (s.settleJobs named) := by
  unfold State.settleJobs
  split
  · exact .returnAll (.completeMany _ h)
  · split
    · exact .completeMany _ h
    · exact .markRisk _ (.returnAll h)

theorem FilmLawful.capture {u : Unit5} {c : Capture} (h : FilmLawful s) : FilmLawful (s.capture u c) :=
  h.of_rol (by simp)

theorem FilmLawful.printerDone {seq : Nat} (h : FilmLawful s) : FilmLawful (s.printerDone seq) := by
  simp only [State.printerDone]
  split
  · split
    · split <;> exact .attempt (FilmLawful.completeOldest h)
    · exact FilmLawful.returnAll <| .capture h
  · exact h

theorem FilmLawful.printerFault {code : PrinterCode} {named : Nat} (h : FilmLawful s) :
    FilmLawful (s.printerFault code named) := by
  unfold State.printerFault
  split
  case h_1 => exact h
  case h_2 => exact FilmLawful.settleJobs <| .capture h
  all_goals exact FilmLawful.capture h

theorem FilmLawful.printerReady (h : FilmLawful s) : FilmLawful s.printerReady := by
  unfold State.printerReady
  split
  case h_1 | h_2 | h_3 => exact .attempt h
  all_goals exact h

theorem FilmLawful.judged {got : PrinterGot} (h : FilmLawful s) : FilmLawful (s.judged got) := by
  cases got with
  | nothing => exact h
  | bad => exact FilmLawful.capture h
  | good e =>
    cases e with
    | done seq => exact FilmLawful.printerDone h
    | fault seq code named => exact FilmLawful.printerFault h
    | ready seq => exact FilmLawful.printerReady h

theorem FilmLawful.hear {cs : List PrinterChar} (h : FilmLawful s) : FilmLawful (s.hear cs) := by
  have hj (gots : List PrinterGot) : KeepsFilm fun s => gots.foldl State.judged s := by
    induction gots with
    | nil => exact fun s h => h
    | cons g gots ih => exact fun s h => ih _ (.judged h)
  unfold State.hear
  split
  · exact h
  · exact hj _ _ h

theorem FilmLawful.printerTimedOut (h : FilmLawful s) : FilmLawful s.printerTimedOut := by
  unfold State.printerTimedOut
  split
  · extract_lets x y
    have hx : FilmLawful x := .capture h
    exact (FilmLawful.returnAll (.markRisk x.prn.inFlight hx)).of_rol (by simp [State.setLink, State.sendAsk, y])
  · exact h

theorem State.statusWaited_rol (s : State) : s.statusWaited.rol = s.rol := by
  unfold State.statusWaited
  (repeat' split) <;> rfl

theorem FilmLawful.setPrinter {f : PrinterSetReq} (h : FilmLawful s) : FilmLawful (s.setPrinter f) := by
  simp only [State.setPrinter]
  split
  case h_1 | h_3 => exact .attempt h
  all_goals exact h

end

/-! ### The requests that leave the film tables alone -/

/-- What a request answers with the film tables as it finds them. -/
def RolKept {α : Type} (owner : α → State → Answer) : Prop := ∀ f s, (owner f s).state.rol = s.rol

theorem Reads.rolKept {α : Type} {owner : α → State → Answer} (h : Reads owner) : RolKept owner := fun f s => by
  rw [h f s]

theorem rolKept_atStation {α : Type} {n : α → Nat} {owner : α → Station → State → Answer}
    (h : ∀ f st s, (owner f st s).state.rol = s.rol) : RolKept fun f s => atStation (n f) s (owner f) := by
  intro f s
  show (atStation (n f) s (owner f)).state.rol = s.rol
  unfold atStation
  split
  · rfl
  · exact h f _ s

theorem rolKept_orderOpen : RolKept answerOrderOpen := by
  intro f s
  unfold answerOrderOpen
  (repeat' split) <;> rfl

theorem rolKept_itemAdd : RolKept answerItemAdd := by
  intro f s
  unfold answerItemAdd
  (repeat' split) <;> rfl

theorem rolKept_orderPriority : RolKept answerOrderPriority := by
  intro f s
  unfold answerOrderPriority
  (repeat' split) <;> rfl

theorem rolKept_stationSet : RolKept answerStationSet := rolKept_atStation fun f st s => by
  (repeat' split) <;> rfl

theorem rolKept_inputTake : RolKept answerInputTake := rolKept_atStation fun _ _ _ => rfl

theorem rolKept_genClear : RolKept answerGenClear := by
  intro f s
  unfold answerGenClear
  (repeat' split) <;> rfl

theorem rolKept_tariffSet : RolKept answerTariffSet := by
  intro f s
  unfold answerTariffSet
  split <;> rfl

theorem rolKept_accountSet : RolKept answerAccountSet := by
  intro f s
  unfold answerAccountSet
  (repeat' split) <;> rfl

theorem rolKept_accountClear : RolKept answerAccountClear := by
  intro f s
  unfold answerAccountClear
  (repeat' split) <;> rfl

theorem rolKept_adjust : RolKept answerAdjust := by
  intro f s
  simp only [answerAdjust]
  (repeat' split) <;> simp

theorem rolKept_journalRelease : RolKept answerJournalRelease := by
  intro f s
  simp only [answerJournalRelease]
  (repeat' split) <;> simp

theorem rolKept_clockSet : RolKept answerClockSet := by
  intro f s
  unfold answerClockSet
  split <;> rfl

theorem rolKept_templateLoad : RolKept answerTemplateLoad := by
  intro f s
  simp only [answerTemplateLoad]
  (repeat' split) <;> simp [(examine_keeps _).rol]

theorem rolKept_templateLock : RolKept answerTemplateLock := by
  intro f s
  simp only [answerTemplateLock]
  (repeat' split) <;> simp [(examine_keeps _).rol]

theorem rolKept_templateUnlock : RolKept answerTemplateUnlock := by
  intro f s
  unfold answerTemplateUnlock
  (repeat' split) <;> rfl

theorem rolKept_templateDrop : RolKept answerTemplateDrop := by
  intro f s
  unfold answerTemplateDrop
  (repeat' split) <;> simp [(examine_keeps _).rol]

theorem rolKept_printerStatus : RolKept answerPrinterStatus := by
  intro f s
  simp only [answerPrinterStatus, taken_state]
  split <;> rfl

theorem rolKept_status : RolKept answerStatus := fun _ _ => rfl

/-! ### The requests that keep the law of the film tables -/

/-- What a request answers with the law of the film tables kept. -/
def FilmKept {α : Type} (owner : α → State → Answer) : Prop :=
  ∀ f s, FilmLawful s → FilmLawful (owner f s).state

theorem RolKept.filmKept {α : Type} {owner : α → State → Answer} (h : RolKept owner) : FilmKept owner :=
  fun f s hs => hs.of_rol (h f s)

theorem filmKept_atStation {α : Type} {n : α → Nat} {owner : α → Station → State → Answer}
    (h : ∀ f st s, FilmLawful s → FilmLawful (owner f st s).state) :
    FilmKept fun f s => atStation (n f) s (owner f) := by
  intro f s hs
  show FilmLawful (atStation (n f) s (owner f)).state
  unfold atStation
  split
  · exact hs
  · exact h f _ s hs

theorem filmKept_orderSubmit : FilmKept answerOrderSubmit := by
  intro f s h
  unfold answerOrderSubmit
  split
  · exact h
  · split
    · exact h
    · split
      · exact h
      · extract_lets u n v
        have hu : FilmLawful u := by
          unfold u
          split <;> exact h
        exact FilmLawful.dispatch (s := State.modOrd _ _) hu

theorem filmKept_hold : FilmKept answerHold := by
  intro f s h
  unfold answerHold
  split
  · exact h
  · split
    case h_6 =>
      split
      · exact FilmLawful.leave (s := s.holdOrder f.order .host) h
      · exact h
    all_goals exact h

theorem filmKept_release : FilmKept answerRelease := by
  intro f s h
  unfold answerRelease
  split
  · exact h
  · split
    · exact FilmLawful.dispatch (s := s.modOrder f.order _) h
    · exact h

theorem FilmLawful.releaseKeeper {s : State} {id : Nat} {st : Station} (h : FilmLawful s) :
    FilmLawful (s.releaseKeeper id st) := by
  unfold State.releaseKeeper
  split
  · split
    · exact .becomeReady h
    · exact h
  · exact h

theorem filmKept_orderCancel : FilmKept answerOrderCancel := by
  intro f s h
  unfold answerOrderCancel
  split
  · exact h
  · split
    case h_4 | h_5 | h_6 => exact .releaseKeeper <| .releaseKeeper <| .releaseKeeper <| h.of_rol (by simp)
    all_goals exact h

theorem filmKept_placed : FilmKept answerPlaced := filmKept_atStation fun f st s h => by
  split
  · exact .beginEntry h
  · exact h

theorem filmKept_skipItem : FilmKept answerSkipItem := filmKept_atStation fun f st s h => by
  split
  · next c _ _ =>
    have he : FilmLawful ((s.endItem st c.order c.item .skipped).settle st) := .settle <| h.of_rol (by simp)
    dsimp only
    split
    · exact .announce he
    · exact .becomeReady <| he.of_rol (by simp)
  · exact h
  · exact h

theorem filmKept_abort : FilmKept answerAbort := filmKept_atStation fun f st s h => by
  split
  · next id _ _ => exact .dispatch <| FilmLawful.leave (s := s.modOrder id _) h
  · exact h

theorem filmKept_stockSet : FilmKept answerStockSet := by
  intro f s h
  unfold answerStockSet
  (repeat' split) <;> exact h

theorem filmKept_stockSetRemove : FilmKept answerStockSetRemove := by
  intro f s h
  unfold answerStockSetRemove
  (repeat' split) <;> exact h

/-- A roll with a number that no other carries joins a table of fewer than 8 (R94, R96). -/
theorem FilmLawful.append {s t : State} {r : Roll} (h : FilmLawful s) (hrolls : t.rol.rolls = s.rol.rolls ++ [r])
    (hframes : t.rol.frames = s.rol.frames) (hreserved : t.rol.reserved = s.rol.reserved)
    (hlast : t.rol.lastRoll = r.number) (hcount : s.rol.rolls.length < 8) (hnumber : r.number ≤ 9999)
    (hrange : r.next - 1 ≤ r.capacity) (hnew : ∀ x ∈ s.rol.rolls, x.number ≠ r.number) : FilmLawful t := by
  obtain ⟨hdistinct, -, -, hrolls', hrecords⟩ := h
  refine ⟨?_, ?_, hlast.le.trans hnumber, fun x hx => ?_, by rwa [hframes, hreserved]⟩
  · rw [hrolls]
    exact List.pairwise_append.mpr ⟨hdistinct, List.pairwise_singleton .., by simpa using hnew⟩
  · rw [hrolls, List.length_append]
    exact hcount
  · rw [hrolls, List.mem_append, List.mem_singleton] at hx
    rcases hx with hx | rfl
    · exact hrolls' x hx
    · exact ⟨hnumber, hrange⟩

theorem filmKept_load : FilmKept answerLoad := filmKept_atStation fun f st s h => by
  split
  · exact h
  · split
    · exact h
    · split
      · exact h
      · split
        · exact h
        · split
          · exact h
          · next hroom =>
            have hcount : s.rol.rolls.length < 8 := Nat.lt_of_not_le hroom
            obtain ⟨-, hnumber, hnew⟩ := nextNumber_free hcount h.lastRoll_le
            have hloaded : FilmLawful (s.modRol fun t => { t with
                rolls := t.rolls ++ [newRoll s.rol.nextNumber st f.stock (s.seq st).settings.back s.stamp]
                lastRoll := s.rol.nextNumber }) :=
              h.append rfl rfl rfl rfl hcount hnumber (Nat.zero_le _) hnew
            exact FilmLawful.setMode (s := State.startMove _ _ _) hloaded

theorem filmKept_unloadEarly : FilmKept answerUnloadEarly := filmKept_atStation fun f st s h => by
  split
  · exact h
  · split
    · exact .takeRollEnd h.truncate
    · exact h

theorem filmKept_cull : FilmKept answerCull := by
  intro f s h
  have hculled : FilmLawful (s.modRol fun t => { t with frames := t.frames.map (cullFrame f) }) :=
    h.of_rolls rfl rfl (by simpa using h.records)
  unfold answerCull
  split
  · exact h
  · split
    · exact h
    · split
      · exact h
      · split
        · exact h
        · split
          · exact h
          · split
            · exact h
            · exact hculled.of_rol (by simp)

/-- A roll and its frames freed leave the others as they were (R114). -/
theorem FilmLawful.freeRoll {s : State} {n : Nat} (h : FilmLawful s) : FilmLawful (s.freeRoll n) := by
  obtain ⟨hdistinct, hcount, hlast, hrolls, hrecords⟩ := h
  exact ⟨hdistinct.filter _, (List.length_filter_le ..).trans hcount, hlast,
    fun r hr => hrolls r (List.mem_of_mem_filter hr),
    (Nat.add_le_add_right (List.length_filter_le ..) _).trans hrecords⟩

theorem freeOrders_rol (ids : List Nat) (s : State) : (ids.foldl (fun t id => t.freeOrder id) s).rol = s.rol := by
  induction ids generalizing s with
  | nil => rfl
  | cons id ids ih => rw [List.foldl_cons, ih, State.freeOrder_rol]

theorem filmKept_closeRoll : FilmKept answerCloseRoll := by
  intro f s h
  unfold answerCloseRoll
  split
  · exact h
  · split
    · exact h
    · split
      · exact h
      · split
        · exact h
        · exact h.freeRoll.of_rol (freeOrders_rol _ _)

/-- The recovery frame of a roll confirmed OPEN is recorded in a free record (R103, R116). -/
theorem FilmLawful.confirmOpened {s : State} {st : Station} {r : Roll} (hr : s.rollAt st = some r)
    (hroom : s.rol.hasRoom 1) (h : FilmLawful s) :
    FilmLawful ((s.modRoll r.number fun x => { x with state := .opened }).recordFrame r .recovery none) := by
  have hmem : { r with state := .opened } ∈ (s.modRoll r.number fun x => { x with state := .opened }).rol.rolls :=
    mem_updateWhere.mpr ⟨r, rollAt_mem hr, by simp⟩
  exact FilmLawful.recordFrame (r := { r with state := .opened }) hmem (fun _ => hroom) h.setRollState

theorem filmKept_confirmRoll : FilmKept answerConfirmRoll := filmKept_atStation fun f st s h => by
  split
  · exact h
  · split
    · exact h
    · next r hr =>
      split
      case h_1 =>
        split
        · split
          · exact h
          · next hroom => exact .filmEndIfSeen <| h.confirmOpened hr (not_not.mp hroom)
        · exact .takeRollEnd h.setRollState
      case h_2 => exact .leaderOn <| .setMode <| h.setRollState (n := r.number) (x := .loading)
      case h_3 => exact FilmLawful.setMode <| h.setRollState (n := r.number) (x := .rewinding)
      all_goals exact h

theorem filmKept_declareUnloaded : FilmKept answerDeclareUnloaded := filmKept_atStation fun f st s h => by
  split
  · exact h
  · dsimp only
    split
    · exact .setMode <| FilmLawful.rollOut (s := s.modDrive st Drive.stop) (fun _ => ⟨rfl, fun _ => le_rfl⟩) h
    · exact .setMode h

theorem filmKept_labelRoll : FilmKept answerLabelRoll := by
  have hqueue (now : List Frame) : KeepsFilm fun s => now.foldl (fun t x => t.queueJob x true) s := by
    induction now with
    | nil => exact fun s h => h
    | cons x now ih => exact fun s h => ih _ (.queueJob h)
  intro f s h
  unfold answerLabelRoll
  split
  · exact h
  · split
    · exact h
    · split
      · exact h
      · exact .examineNew <| hqueue _ s h

theorem filmKept_labelFrame : FilmKept answerLabelFrame := by
  intro f s h
  unfold answerLabelFrame
  split
  · exact h
  · split
    · exact h
    · split
      · exact h
      · split
        · exact h
        · split
          · exact h
          · exact .examineNew <| .queueJob h

theorem filmKept_labelCancel : FilmKept answerLabelCancel := by
  intro f s h
  have hcancelled : FilmLawful (s.cancelJobs f.roll) := h.of_rolls rfl rfl (by simpa [State.cancelJobs] using h.records)
  unfold answerLabelCancel
  split
  · exact h
  · split
    · exact h
    · dsimp only
      split
      · exact .examine hcancelled
      · exact hcancelled

theorem filmKept_printerSet : FilmKept answerPrinterSet := by
  intro f s h
  unfold answerPrinterSet
  split
  · exact h
  · split
    · exact h
    · exact .setPrinter h

theorem filmKept_faultClear : FilmKept answerFaultClear := by
  intro f s h
  unfold answerFaultClear
  split
  · exact h
  · split
    · exact h
    · simp only [taken_state, State.recoverUnit]
      split
      · exact .recover h
      · exact h

/-! ### Resets (R115, R150, R203) -/

theorem keepReset_rol (lnk : Lnk) (doors : PerStation Door) (ready : Bool) (s : State) :
    (s.keepReset lnk doors ready).rol = (s.keptReset doors ready).rol :=
  (labelStart_keeps { s.keptReset doors ready with lnk := lnk }).rol

theorem FilmLawful.keepReset {lnk : Lnk} {doors : PerStation Door} {ready : Bool} {s : State} (h : FilmLawful s) :
    FilmLawful (s.keepReset lnk doors ready) := by
  refine FilmLawful.of_rol (s := s.keptReset doors ready) ?_ (keepReset_rol ..)
  have hreset (r : Roll) : r.afterReset.number = r.number ∧ r.afterReset.next = r.next ∧
      r.afterReset.capacity = r.capacity := by
    unfold Roll.afterReset
    split <;> exact ⟨rfl, rfl, rfl⟩
  refine h.of_map (g := Roll.afterReset) rfl rfl (fun r => (hreset r).1) (fun r _ hc => ?_) ?_
  · obtain ⟨-, hnext, hcapacity⟩ := hreset r
    rwa [hnext, hcapacity]
  · simpa [State.keptReset] using (Nat.le_add_right ..).trans h.records

theorem FilmLawful.coldReset {pins : ResetPins} (s : State) : FilmLawful (s.coldReset pins) :=
  ⟨List.Pairwise.nil, Nat.zero_le _, Nat.zero_le _, nofun, Nat.zero_le _⟩

theorem FilmLawful.resetBy {s : State} {pins : ResetPins} (h : FilmLawful s) : FilmLawful (s.resetBy pins) := by
  unfold State.resetBy
  split
  · exact .keepReset h
  · exact .coldReset s

/-! ### Requests as LNK takes them (R197) -/

section

variable {s : State}

theorem FilmLawful.takeRequest {kind tag : Byte} {answer : State → Answer}
    (ha : ∀ s, FilmLawful s → FilmLawful (answer s).state) (h : FilmLawful s) :
    FilmLawful (takeRequest kind tag answer s) := by
  simp only [Machine.takeRequest]
  split
  · exact h
  · split
    · exact h
    · exact ha s.frameTaken h

theorem FilmKept.takePayload {α : Type} {kind : RequestKind} {tag : Byte} {p : Payload α} {owner : α → State → Answer}
    (ho : FilmKept owner) (h : FilmLawful s) : FilmLawful (takePayload kind tag p owner s) :=
  .takeRequest (fun t ht => by
    cases p with
    | fields f => exact ho f t ht
    | malformed => exact ht) h

theorem FilmLawful.takeCommand {c : Instr} (h : FilmLawful s) : FilmLawful (s.takeCommand c) := by
  cases c with
  | orderOpen => exact rolKept_orderOpen.filmKept.takePayload h
  | itemAdd => exact rolKept_itemAdd.filmKept.takePayload h
  | orderSubmit => exact filmKept_orderSubmit.takePayload h
  | hold => exact filmKept_hold.takePayload h
  | release => exact filmKept_release.takePayload h
  | orderPriority => exact rolKept_orderPriority.filmKept.takePayload h
  | orderCancel => exact filmKept_orderCancel.takePayload h
  | stationSet => exact rolKept_stationSet.filmKept.takePayload h
  | placed => exact filmKept_placed.takePayload h
  | inputTake => exact rolKept_inputTake.filmKept.takePayload h
  | skipItem => exact filmKept_skipItem.takePayload h
  | abort => exact filmKept_abort.takePayload h
  | genClear => exact rolKept_genClear.filmKept.takePayload h
  | stockSet => exact filmKept_stockSet.takePayload h
  | stockSetRemove => exact filmKept_stockSetRemove.takePayload h
  | load => exact filmKept_load.takePayload h
  | unloadEarly => exact filmKept_unloadEarly.takePayload h
  | cull => exact filmKept_cull.takePayload h
  | closeRoll => exact filmKept_closeRoll.takePayload h
  | confirmRoll => exact filmKept_confirmRoll.takePayload h
  | declareUnloaded => exact filmKept_declareUnloaded.takePayload h
  | tariffSet => exact rolKept_tariffSet.filmKept.takePayload h
  | accountSet => exact rolKept_accountSet.filmKept.takePayload h
  | accountClear => exact rolKept_accountClear.filmKept.takePayload h
  | adjust => exact rolKept_adjust.filmKept.takePayload h
  | journalRelease => exact rolKept_journalRelease.filmKept.takePayload h
  | clockSet => exact rolKept_clockSet.filmKept.takePayload h
  | labelRoll => exact filmKept_labelRoll.takePayload h
  | labelFrame => exact filmKept_labelFrame.takePayload h
  | labelCancel => exact filmKept_labelCancel.takePayload h
  | templateLoad => exact rolKept_templateLoad.filmKept.takePayload h
  | templateLock => exact rolKept_templateLock.filmKept.takePayload h
  | templateUnlock => exact rolKept_templateUnlock.filmKept.takePayload h
  | templateDrop => exact rolKept_templateDrop.filmKept.takePayload h
  | printerSet => exact filmKept_printerSet.takePayload h
  | printerStatus => exact rolKept_printerStatus.filmKept.takePayload h
  | faultClear => exact filmKept_faultClear.takePayload h
  | standReset => exact FilmKept.takePayload (owner := answerStandReset) (fun _ _ => .keepReset) h
  | status => exact rolKept_status.filmKept.takePayload h
  | orderRead => exact reads_orderRead.rolKept.filmKept.takePayload h
  | itemRead => exact reads_itemRead.rolKept.filmKept.takePayload h
  | stationRead => exact reads_stationRead.rolKept.filmKept.takePayload h
  | planQueryDirect => exact reads_planQueryDirect.rolKept.filmKept.takePayload h
  | planQueryStation => exact reads_planQueryStation.rolKept.filmKept.takePayload h
  | planQueryItem => exact reads_planQueryItem.rolKept.filmKept.takePayload h
  | genRead => exact reads_genRead.rolKept.filmKept.takePayload h
  | stockRead => exact reads_stockRead.rolKept.filmKept.takePayload h
  | frameRead => exact reads_frameRead.rolKept.filmKept.takePayload h
  | tariffRead => exact reads_tariffRead.rolKept.filmKept.takePayload h
  | accountRead => exact reads_accountRead.rolKept.filmKept.takePayload h
  | journalRead => exact reads_journalRead.rolKept.filmKept.takePayload h
  | clockRead => exact reads_clockRead.rolKept.filmKept.takePayload h
  | labelRead => exact reads_labelRead.rolKept.filmKept.takePayload h
  | templateRead => exact reads_templateRead.rolKept.filmKept.takePayload h
  | faultRead => exact reads_faultRead.rolKept.filmKept.takePayload h
  | ident => exact reads_ident.rolKept.filmKept.takePayload h
  | unknownKind => exact .takeRequest (fun _ ht => ht) h
  | _ => exact h

theorem FilmLawful.hearHost (cs : List HostChar) (h : FilmLawful s) : FilmLawful (s.hearHost cs) := by
  induction cs generalizing s with
  | nil => exact h
  | cons c cs ih =>
    refine ih ?_
    unfold State.takeReceived
    split
    · split
      · exact h
      · exact FilmLawful.takeCommand (s := s.receive _) h
    · exact h
    · exact h

/-! ### The events at the stations' lines and at the generator's -/

theorem FilmLawful.pulse {st : Station} (h : FilmLawful s) : FilmLawful (s.pulse st) := by
  simp only [State.pulse]
  split
  · split
    · split
      · exact .moveOver h
      · exact h
    · exact h
  · exact h

theorem FilmLawful.advanceTimedOut {st : Station} (h : FilmLawful s) : FilmLawful (s.advanceTimedOut st) := by
  unfold State.advanceTimedOut
  split
  · exact .jam h
  · exact h

theorem FilmLawful.endSensed {st : Station} (h : FilmLawful s) : FilmLawful (s.endSensed st) := by
  unfold State.endSensed
  split
  · exact h
  · exact h
  · exact .filmEnd h

theorem FilmLawful.rewound {st : Station} (h : FilmLawful s) : FilmLawful (s.rewound st) := by
  simp only [State.rewound]
  split
  · split
    · exact .setMode <| FilmLawful.rollFull (s := s.modDrive st Drive.stop) h
    · exact h
  · exact h

theorem State.rewindTimedOut_rol (st : Station) (s : State) : (s.rewindTimedOut st).rol = s.rol := by
  simp only [State.rewindTimedOut]
  split <;> simp

theorem FilmLawful.footEdge {st : Station} {edge : Edge} (h : FilmLawful s) : FilmLawful (s.footEdge st edge) := by
  simp only [State.footEdge]
  split
  · split
    · exact .beginEntry h
    · exact h
  · exact h

theorem State.readyRises_rol (s : State) : s.readyRises.rol = s.rol := by
  simp only [State.readyRises, State.charged]
  (repeat' split) <;> simp

theorem State.readyFalls_rol (s : State) : s.readyFalls.rol = s.rol := by
  simp only [State.readyFalls]
  split <;> simp

theorem FilmLawful.afterFiring {act : Station → State → State} (ha : ∀ st, KeepsFilm (act st)) (h : FilmLawful s) :
    FilmLawful (s.afterFiring act) := by
  unfold State.afterFiring
  split
  · exact .popReport (ha _) h
  · exact h.of_rol (by simp)

theorem FilmLawful.flashReported (h : FilmLawful s) : FilmLawful s.flashReported := by
  unfold State.flashReported
  split
  · exact .afterFiring (fun _ _ => .confirmPop) h
  · exact h

theorem FilmLawful.windowExpired (h : FilmLawful s) : FilmLawful s.windowExpired := by
  unfold State.windowExpired
  split
  · exact .afterFiring (fun _ _ => .misfire) h
  · exact h

theorem FilmLawful.chargeTimedOut (h : FilmLawful s) : FilmLawful s.chargeTimedOut := by
  unfold State.chargeTimedOut
  split
  · exact .enterGenFault <| .capture h
  · exact h

theorem State.idleExpired_rol (s : State) : s.idleExpired.rol = s.rol := by
  unfold State.idleExpired
  (repeat' split) <;> rfl

theorem State.minutePassed_rol (s : State) : s.minutePassed.rol = s.rol := by
  unfold State.minutePassed
  split <;> rfl

theorem State.gapExpired_rol (s : State) : s.gapExpired.rol = s.rol := by
  unfold State.gapExpired
  split <;> rfl

theorem FilmLawful.askSlotAgain {st : Station} (h : FilmLawful s) : FilmLawful (s.askSlotAgain st) := by
  simp only [State.askSlotAgain]
  split
  · split
    · exact .claim h
    · exact h
  · exact h

theorem FilmLawful.attemptAgain (h : FilmLawful s) : FilmLawful s.attemptAgain := by
  unfold State.attemptAgain
  split
  · exact .attempt h
  · exact h

/-! ### Every command and every step -/

theorem keepsFilm_of_rol {f : State → State} (h : ∀ s : State, (f s).rol = s.rol) : KeepsFilm f :=
  fun s hs => hs.of_rol (h s)

/-- Every command is an event that keeps the law of the film tables. -/
theorem exec_keepsFilm (c : Instr) (s : State) : ∃ f, exec c s = event f s ∧ KeepsFilm f := by
  cases c with
  | hostBadFrame chars => exact ⟨_, rfl, fun _ => .hearHost chars⟩
  | interByteGap => exact ⟨_, rfl, keepsFilm_of_rol State.gapExpired_rol⟩
  | frameSent => exact ⟨_, rfl, fun _ h => h⟩
  | reset => exact ⟨_, rfl, fun _ => .resetBy⟩
  | footSwitchEdge => exact ⟨_, rfl, fun _ => .footEdge⟩
  | doorOpened => exact ⟨_, rfl, fun _ => .doorOpen⟩
  | doorClosed => exact ⟨_, rfl, fun _ h => h⟩
  | sprocketPulse => exact ⟨_, rfl, fun _ => .pulse⟩
  | advanceTimeout => exact ⟨_, rfl, fun _ => .advanceTimedOut⟩
  | endOfFilmSensor => exact ⟨_, rfl, fun _ => .endSensed⟩
  | rewindDone => exact ⟨_, rfl, fun _ => .rewound⟩
  | rewindTimerExpiry st => exact ⟨_, rfl, keepsFilm_of_rol (State.rewindTimedOut_rol st)⟩
  | readyInputRise => exact ⟨_, rfl, keepsFilm_of_rol State.readyRises_rol⟩
  | readyInputFall => exact ⟨_, rfl, keepsFilm_of_rol State.readyFalls_rol⟩
  | flashSensorReport => exact ⟨_, rfl, fun _ => .flashReported⟩
  | flashConfirmWindowExpiry => exact ⟨_, rfl, fun _ => .windowExpired⟩
  | chargeTimerExpiry => exact ⟨_, rfl, fun _ => .chargeTimedOut⟩
  | idleDischarge => exact ⟨_, rfl, keepsFilm_of_rol State.idleExpired_rol⟩
  | cooling => exact ⟨_, rfl, keepsFilm_of_rol fun s => by simp [State.cooled]⟩
  | minuteTimerExpiry => exact ⟨_, rfl, keepsFilm_of_rol State.minutePassed_rol⟩
  | printerDone => exact ⟨_, rfl, fun _ => .hear⟩
  | printerFault => exact ⟨_, rfl, fun _ => .hear⟩
  | printerReady => exact ⟨_, rfl, fun _ => .hear⟩
  | badFrame => exact ⟨_, rfl, fun _ => .hear⟩
  | printerTimerExpiry => exact ⟨_, rfl, fun _ => .printerTimedOut⟩
  | statusWaitExpiry => exact ⟨_, rfl, keepsFilm_of_rol State.statusWaited_rol⟩
  | stationSlotRequest => exact ⟨_, rfl, fun _ => .askSlotAgain⟩
  | printerSlotRequest => exact ⟨_, rfl, fun _ => .attemptAgain⟩
  | unknownKind tag kind =>
    obtain ⟨c, -, he⟩ := execUnknownKind_eq tag kind s
    exact ⟨_, he, fun _ => .takeCommand⟩
  | _ => exact ⟨_, exec_request rfl (by simp) s, fun _ => .takeCommand⟩

theorem FilmLawful.exec {c : Instr} {t : State} (h : FilmLawful s) (e : exec c s = .next t) : FilmLawful t := by
  obtain ⟨f, hf, hk⟩ := exec_keepsFilm c s
  rw [hf] at e
  cases e
  exact hk s.begun h

/-- The empty queue changes nothing, and every command keeps the law. -/
theorem FilmLawful.step {t : State} (h : FilmLawful s) (e : step s = .next t) : FilmLawful t := by
  unfold Machine.step at e
  split at e
  · cases e
    exact h
  · next c rest _ => exact FilmLawful.exec (s := { s with pending := rest }) h e

end

end Sys2Proof.Machine
end

section
/-! SUPPORT. LOAD: its conditions, and the roll, the drive and the station that it leaves (R22, R96 to R98, R102). -/

namespace Sys2Proof.Machine

variable {s : State} {st : Station}

/-- A station that goes to LOADING from UNLOADED queues STATION_STATE (R22). -/
theorem setMode_loading (hm : (s.seq st).mode = .unloaded) : s.setMode st .loading =
    (s.modSeq st fun q => { q with mode := .loading, roomReport := false }).raise
      (.stationState st .loading (s.seq st).current) :=
  if_neg (by rw [hm]; decide)

/-- The end-seen indication cleared, the first leader frame is started (R98, R102). -/
theorem startLeader_eq (s : State) (st : Station) :
    (s.modDrive st fun d => { d with endSeen := false, leader := 0 }).startMove st .leader =
      s.modDrive st fun d => { d with endSeen := false, leader := 0, move := some .leader, pulses := 0, motor := .forward
                                      advanceTimer := some 1500 } := by
  cases st <;> rfl

/-- The state that a LOAD leaves: its roll in the table and in the back, the first leader frame started, the station
LOADING. -/
def State.loadedAt (st : Station) (stock : Nat) (s : State) : State :=
  let roll := newRoll s.rol.nextNumber st stock (s.seq st).settings.back s.stamp
  (((s.modRol fun t => { t with rolls := t.rolls ++ [roll], lastRoll := s.rol.nextNumber }).modDrive st fun d =>
    { d with endSeen := false, leader := 0, move := some .leader, pulses := 0, motor := .forward
             advanceTimer := some 1500 }).modSeq st fun q => { q with mode := .loading, roomReport := false }).raise
    (.stationState st .loading (s.seq st).current)

theorem answerLoad_eq {f : LoadReq} (hn : stationOf? f.station = some st) : answerLoad f s =
    if f.stock < 1 ∨ 15 < f.stock then refuse s .badField
    else if s.speed? f.stock = none then refuse s .notFound
    else if (s.seq st).mode ≠ .unloaded then refuse s .state
    else if (s.drive st).door ≠ .closed then refuse s .busy
    else if 8 ≤ s.rol.rolls.length then refuse s .full
    else taken (s.loadedAt st f.stock) (.loaded s.rol.nextNumber (backCapacity (s.seq st).settings.back)) := by
  have hrange : (¬ within 1 15 f.stock) = (f.stock < 1 ∨ 15 < f.stock) := by
    simp only [within, eq_iff_iff]
    omega
  simp only [answerLoad, atStation_some hn, hrange, Option.isNone_iff_eq_none]
  by_cases hm : (s.seq st).mode = .unloaded
  · rw [startLeader_eq, setMode_loading (by exact hm)]
    rfl
  · simp only [ne_eq, hm, not_false_eq_true, if_true]

/-- Settles O40: the conditions in their order, the number by the search for it, and the law by every step. -/
theorem loadStartsRoll : Obligations.LoadStartsRoll := by
  refine ⟨fun tag f s ha => ?_, fun t => nextNumber_free, fun s t => .step⟩
  intro c
  split
  · next hn => exact request_answers ha (atStation_none hn _)
  · next st hn =>
    have hload := answerLoad_eq (s := s.asked) hn
    split
    · next hstock => exact request_answers ha (hload.trans (if_pos hstock))
    · next hstock =>
      split
      · next hspeed => exact request_answers ha (hload.trans ((if_neg hstock).trans (if_pos hspeed)))
      · next hspeed =>
        have hstate := hload.trans ((if_neg hstock).trans (if_neg hspeed))
        split
        · next hmode => exact request_answers ha (hstate.trans (if_pos hmode))
        · next hmode =>
          split
          · next hdoor => exact request_answers ha (hstate.trans ((if_neg hmode).trans (if_pos hdoor)))
          · next hdoor =>
            have hroom := hstate.trans ((if_neg hmode).trans (if_neg hdoor))
            split
            · next hfull => exact request_answers ha (hroom.trans (if_pos hfull))
            · next hfull => exact request_answers ha (hroom.trans (if_neg hfull))

end Sys2Proof.Machine
end

section
/-! SUPPORT. The account requests and the account side of a charge (R119, R122 to R124, R129, R131, R139). -/

namespace Sys2Proof.Machine

section

variable {s : State}

/-! ### The tariff table (R118, R119) -/

/-- The rates set for a tariff class are those of the class. -/
theorem Tariffs.get_set_same (t : Tariffs) (cls : Nat) (r : Rates) : (t.set cls r).get cls = r := by
  match cls with
  | 0 | 1 | 2 | 3 | _ + 4 => rfl

/-- Rates set for one of the four tariff classes leave the others. -/
theorem Tariffs.get_set_other {m n : Nat} (hm : within 1 4 m) (hn : n ∈ [1, 2, 3, 4]) (h : n ≠ m) (t : Tariffs)
    (r : Rates) : (t.set m r).get n = t.get n := by
  obtain ⟨hlo, hhi⟩ := hm
  simp only [List.mem_cons, List.not_mem_nil, or_false] at hn
  rcases hn with rfl | rfl | rfl | rfl <;> interval_cases m <;>
    simp [Tariffs.set, Tariffs.get] at h ⊢

/-! ### The account table (R121, R123) -/

/-- The account put in at a free slot is the one of its slot. -/
theorem find?_putAccount_same {a : Account} {l : List Account} (h : (l.find? fun x => x.slot == a.slot) = none) :
    ((putAccount a l).find? fun x => x.slot == a.slot) = some a := by
  induction l with
  | nil => simp [putAccount]
  | cons x l ih =>
    obtain ⟨hx, hl⟩ := List.forall_mem_cons.mp (List.find?_eq_none.mp h)
    unfold putAccount
    split
    · simp
    · rw [List.find?_cons_of_neg (by exact hx), ih (List.find?_eq_none.mpr hl)]

/-- An account put in leaves the accounts of the other slots. -/
theorem find?_putAccount_other {a : Account} {n : Nat} (h : n ≠ a.slot) (l : List Account) :
    ((putAccount a l).find? fun x => x.slot == n) = l.find? fun x => x.slot == n := by
  have ha (l : List Account) : ((a :: l).find? fun x => x.slot == n) = l.find? fun x => x.slot == n :=
    List.find?_cons_of_neg (by simpa using Ne.symm h)
  induction l with
  | nil => exact ha []
  | cons x l ih =>
    unfold putAccount
    split
    · exact ha (x :: l)
    · rw [List.find?_cons, List.find?_cons, ih]

/-- A change that keeps the slot is seen at the account changed. -/
theorem modAccount_account? {slot : Nat} {f : Account → Account} (hf : ∀ a, (f a).slot = a.slot) (s : State) :
    (s.modAccount slot f).account? slot = (s.account? slot).map f :=
  find?_updateWhere (fun a => by rw [hf]) _

/-! ### ACCOUNT_SET and ACCOUNT_CLEAR (R123, R124) -/

theorem ordersOn_pos {slot : Nat} : 0 < s.ordersOn slot ↔ ∃ o ∈ s.ord.orders, o.account = slot := by
  simp [State.ordersOn, List.length_pos_iff_exists_mem]

theorem entriesOn_pos {slot : Nat} : 0 < s.entriesOn slot ↔ ∃ e ∈ s.jnl.entries, e.account = slot := by
  simp [State.entriesOn, List.length_pos_iff_exists_mem]

theorem answerAccountSet_present {g : AccountSetReq} {a : Account} (hg : accountSetInRange g)
    (ha : s.account? g.slot = some a) : answerAccountSet g s =
      if g.limit ≠ 0 ∧ (g.limit : Int) < a.committed then refuse s .belowCommitted (.committed a.committed)
      else taken (s.modAccount g.slot fun a => { a with name := g.name, cls := g.cls, limit := g.limit }) := by
  simp only [answerAccountSet, if_neg (not_not.mpr hg), ha]

theorem answerAccountSet_new {g : AccountSetReq} (hg : accountSetInRange g) (ha : s.account? g.slot = none) :
    answerAccountSet g s =
      taken (s.modAcc fun t => { t with accounts := putAccount (newAccount g) t.accounts }) := by
  simp only [answerAccountSet, if_neg (not_not.mpr hg), ha]

theorem answerAccountClear_outOfRange {h : AccountReq} (hr : h.slot < 1 ∨ 64 < h.slot) :
    answerAccountClear h s = refuse s .badField := if_pos (by omega)

theorem answerAccountClear_absent {h : AccountReq} (hr : ¬ (h.slot < 1 ∨ 64 < h.slot)) (ha : s.account? h.slot = none) :
    answerAccountClear h s = refuse s .notFound := by
  have hin : within 1 64 h.slot := by omega
  simp only [answerAccountClear, if_neg (not_not.mpr hin), ha]

theorem answerAccountClear_present {h : AccountReq} {a : Account} (hr : ¬ (h.slot < 1 ∨ 64 < h.slot))
    (ha : s.account? h.slot = some a) : answerAccountClear h s =
      if (∃ o ∈ s.ord.orders, o.account = h.slot) ∨ a.reserved ≠ 0 ∨ ∃ x ∈ s.jnl.entries, x.account = h.slot then
        refuse s .busy
      else taken (s.modAcc fun t => { t with accounts := t.accounts.filter fun x => !(x.slot == h.slot) }) := by
  have hin : within 1 64 h.slot := by omega
  simp only [answerAccountClear, if_neg (not_not.mpr hin), ha, ordersOn_pos, entriesOn_pos, ite_or]

/-- Settles O46, condition by condition; the tables by their lookups. -/
theorem tariffsAndAccountsAreSet : Obligations.TariffsAndAccountsAreSet := by
  intro tag f g h s ha c d e
  refine ⟨?_, ?_, ?_⟩
  · split
    · next hrange => exact request_answers ha (if_pos hrange)
    · next hrange =>
      have hcls : within 1 4 f.cls := (not_not.mp hrange).1
      exact ⟨_, request_answers ha (if_neg hrange), Tariffs.get_set_same .., fun n hn hne =>
        Tariffs.get_set_other hcls hn hne ..⟩
  · split
    · next hrange => exact request_answers ha (if_pos hrange)
    · next hrange =>
      have hin := not_not.mp hrange
      split
      · next hnone =>
        exact ⟨_, request_answers ha (answerAccountSet_new (s := s.asked) hin hnone),
          find?_putAccount_same (a := newAccount g) hnone, fun n hn => find?_putAccount_other (a := newAccount g) hn _⟩
      · next a hsome =>
        have hset := answerAccountSet_present (s := s.asked) hin hsome
        split
        · next hbelow => exact request_answers ha (hset.trans (if_pos hbelow))
        · next hbelow => exact request_answers ha (hset.trans (if_neg hbelow))
  · split
    · next hrange => exact request_answers ha (answerAccountClear_outOfRange hrange)
    · next hrange =>
      split
      · next hnone => exact request_answers ha (answerAccountClear_absent (s := s.asked) hrange hnone)
      · next a hsome =>
        have hclear := answerAccountClear_present (s := s.asked) hrange hsome
        split
        · next hbusy => exact request_answers ha (hclear.trans (if_pos hbusy))
        · next hbusy => exact request_answers ha (hclear.trans (if_neg hbusy))

/-! ### ADJUST (R131, R139) -/

/-- An append puts in what its entry is at the next sequence number, and asks the entry of no other number. -/
theorem appendEntry_next (fills : Bool) (e : Nat → JournalEntry) (s : State) :
    s.appendEntry fills e = s.appendEntry fills fun _ => e s.jnl.next := rfl

theorem not_withinLimit {a : Account} {z : Int} : ¬ a.withinLimit z ↔ a.limit ≠ 0 ∧ (a.limit : Int) < z := by
  rw [Account.withinLimit, not_or, not_le]

theorem headroom_of_limit {a : Account} (h : a.limit ≠ 0) : a.headroom = some ((a.limit : Int) - a.committed) := if_neg h

/-- With the sum in range, ADJUST changes the adjusted amount alone (R121, R131). -/
theorem adjustAccount_inRange {slot : Nat} {z : Int} {a : Account} (ha : s.account? slot = some a)
    (hz : adjustedInRange (a.adjusted + z)) : s.adjustAccount slot z =
      s.modAccount slot fun x => { x with adjusted := adjustedSum s.free (x.adjusted + z) } := by
  simp only [State.adjustAccount, ha, if_pos hz]

theorem appendEntry_account? (fills : Bool) (e : Nat → JournalEntry) (s : State) (n : Nat) :
    (s.appendEntry fills e).account? n = s.account? n := by simp only [State.account?, State.appendEntry_acc]

theorem answerAdjust_absent {f : AdjustReq} (hf : adjustInRange f) (ha : s.account? f.slot = none) :
    answerAdjust f s = refuse s .notFound := by
  simp only [answerAdjust, if_neg (not_not.mpr hf), ha]

section

variable {f : AdjustReq} {a : Account}

theorem answerAdjust_overLimit (hf : adjustInRange f) (ha : s.account? f.slot = some a)
    (hlimit : 0 < f.amount ∧ a.limit ≠ 0 ∧ (a.limit : Int) < a.committed + f.amount) :
    answerAdjust f s = refuse s .overLimit (.headroom (a.limit - a.committed)) := by
  obtain ⟨hpos, hover⟩ := hlimit
  simp only [answerAdjust, if_neg (not_not.mpr hf), ha, if_pos (And.intro hpos (not_withinLimit.mpr hover)),
    headroom_of_limit hover.1]

theorem answerAdjust_journalFull (hf : adjustInRange f) (ha : s.account? f.slot = some a)
    (hlimit : ¬ (0 < f.amount ∧ a.limit ≠ 0 ∧ (a.limit : Int) < a.committed + f.amount)) (hroom : ¬ s.jnl.hasRoom) :
    answerAdjust f s = refuse s .journalFull := by
  simp only [answerAdjust, if_neg (not_not.mpr hf), ha, not_withinLimit, if_neg hlimit, if_pos hroom]

theorem answerAdjust_taken (hf : adjustInRange f) (ha : s.account? f.slot = some a)
    (hlimit : ¬ (0 < f.amount ∧ a.limit ≠ 0 ∧ (a.limit : Int) < a.committed + f.amount)) (hroom : s.jnl.hasRoom)
    (hsum : adjustedInRange (a.adjusted + f.amount)) :
    answerAdjust f s = taken
      ((s.modAccount f.slot fun x => { x with adjusted := adjustedSum s.free (x.adjusted + f.amount) }).appendEntry false
        fun _ => adjustEntry f.slot f.amount s.stamp s.jnl.next) (.adjusted (a.committed + f.amount) s.jnl.next) := by
  simp only [answerAdjust, if_neg (not_not.mpr hf), ha, not_withinLimit, if_neg hlimit, if_neg (not_not.mpr hroom),
    adjustAccount_inRange ha hsum, appendEntry_account?,
    modAccount_account?, implies_true]
  have htotal : ({ a with adjusted := adjustedSum s.free (a.adjusted + f.amount) } : Account).committed =
      a.committed + f.amount := by
    simp only [Account.committed, adjustedSum, if_pos hsum]
    ring
  simp only [Option.map_some, htotal]
  exact congrArg (taken · _) (appendEntry_next ..)

end

/-! ### The account side of a charge (R129) -/

/-- A charge whose sum stays in range moves its rate from reserved to charged (R121, R129). -/
theorem chargeAccount_account? {slot rate : Nat} {a : Account} (ha : s.account? slot = some a)
    (hsum : a.charged + rate ≤ maxMoney) : (s.chargeAccount slot rate).account? slot =
      some { a with reserved := a.reserved - rate, charged := a.charged + rate } := by
  simp only [State.chargeAccount, ha, if_pos hsum, modAccount_account?, implies_true, Option.map_some, moneySum]

/-- An amount moved from reserved to charged leaves the committed amount (R122). -/
theorem committed_charged {a : Account} {rate : Nat} (h : rate ≤ a.reserved) :
    ({ a with reserved := a.reserved - rate, charged := a.charged + rate } : Account).committed = a.committed := by
  simp only [Account.committed]
  omega

end

/-- Settles O47: the conditions of ADJUST in their order, and a charge by the account it leaves. -/
theorem adjustAndChargeMoveMoney : Obligations.AdjustAndChargeMoveMoney := by
  refine ⟨fun tag f s ha => ?_, fun slot rate a s ha hrate hsum =>
    ⟨_, chargeAccount_account? ha hsum, committed_charged hrate, rfl⟩⟩
  intro c
  split
  · next hrange => exact request_answers ha (if_pos hrange)
  · next hrange =>
    have hin := not_not.mp hrange
    split
    · next hnone => exact request_answers ha (answerAdjust_absent (s := s.asked) hin hnone)
    · next a hsome =>
      intro total
      split
      · next hlimit => exact request_answers ha (answerAdjust_overLimit (s := s.asked) hin hsome hlimit)
      · next hlimit =>
        split
        · next hroom => exact request_answers ha (answerAdjust_journalFull (s := s.asked) hin hsome hlimit hroom)
        · next hroom =>
          intro entry hlow hhigh
          have hsum : adjustedInRange (a.adjusted + f.amount) := by
            simp only [adjustedInRange, maxMoney]
            omega
          exact request_answers ha (answerAdjust_taken (s := s.asked) hin hsome hlimit (not_not.mp hroom) hsum)

end Sys2Proof.Machine
end

section
/-! SUPPORT. The printer's jobs: what completes, returns and settles them (R130, R167, R175, R176, R178). -/

namespace Sys2Proof.Machine

section

variable {s : State} {x : InFlight} {rest : List InFlight} {roll frame : Nat}

/-! ### A job completed (R130, R167, R175) -/

/-- A frame that becomes PRINTED queues ROLL_LABELLED where the roll's condition holds now and did not before (R113). -/
theorem framePrinted_eq (roll frame : Nat) (s : State) : s.framePrinted roll frame =
    let t := s.modFrame roll frame fun f => { f with label := .printed }
    if t.labelled roll = true ∧ s.labelled roll = false then t.raise (.rollLabelled roll) else t := by
  simp only [State.framePrinted, State.testLabelled, Bool.and_eq_true, Bool.not_eq_true']

/-- A change of the record of a frame, record by record. -/
theorem modFrame_eq (n k : Nat) (f : Frame → Frame) (s : State) : s.modFrame n k f =
    { s with rol := { s.rol with frames := s.rol.frames.map fun y => if y.roll = n ∧ y.number = k then f y else y } } := by
  simp only [State.modFrame, State.modRol, updateWhere, Bool.and_eq_true, beq_iff_eq]

theorem completeOldest_cons (h : s.prn.inFlight = x :: rest) : s.completeOldest =
    let t := (s.modPrn fun p => { p with inFlight := rest }).framePrinted x.roll x.frame
    State.removeSent x.seq
      (if (s.lbl.sentJob? x.seq).any LabelJob.charge then t.postMount x.roll x.frame else t) := by
  simp only [State.completeOldest, h]
  cases s.lbl.sentJob? x.seq <;> rfl

@[simp] theorem framePrinted_prn (roll frame : Nat) (s : State) : (s.framePrinted roll frame).prn = s.prn := by
  simp [State.framePrinted]

@[simp] theorem postMount_prn (roll frame : Nat) (s : State) : (s.postMount roll frame).prn = s.prn := by
  simp only [State.postMount, State.appendEntry_prn]
  split <;> simp

/-- A completed job leaves the in-flight list, and nothing else of the printer link changes. -/
theorem completeOldest_prn (h : s.prn.inFlight = x :: rest) :
    s.completeOldest.prn = { s.prn with inFlight := rest } := by
  simp only [completeOldest_cons h, State.removeSent, State.modLbl_prn]
  split <;> simp

/-- With the sum in range, a mount posting changes the mounted amount alone (R121, R130). -/
theorem mountAccount_inRange {slot rate : Nat} {a : Account} (ha : s.account? slot = some a)
    (hsum : a.mounted + rate ≤ maxMoney) : s.mountAccount slot rate =
      s.modAccount slot fun x => { x with mounted := moneySum s.free (x.mounted + rate) } := by
  simp only [State.mountAccount, ha, if_pos hsum]

/-- The mount posting of a frame whose order and account are present (R130). -/
theorem postMount_present {f : Frame} {e : Exposure} {o : Order} {a : Account} (hf : s.frame? roll frame = some f)
    (he : f.exposure = some e) (ho : s.order? e.order = some o) (ha : s.account? o.account = some a)
    (hsum : a.mounted + (s.acc.tariffs.get a.cls).mount ≤ maxMoney) : s.postMount roll frame =
      let rate := (s.acc.tariffs.get a.cls).mount
      (s.modAccount o.account fun x => { x with mounted := moneySum s.free (x.mounted + rate) }).appendEntry true fun n =>
        { seq := n, kind := .mount, account := o.account, amount := rate, order := some e.order, item := some e.item
          roll := some roll, frame := some frame, date := s.stamp } := by
  have horder : s.orderOf f = some o := by simp only [State.orderOf, he, Option.bind_some, ho]
  simp only [State.postMount, hf, Option.bind_some, horder, Option.map_some, Option.getD_some, ha, Option.isSome_some,
    and_self, if_true, mountAccount_inRange ha hsum, he]

/-! ### Jobs returned (R167, R176) -/

theorem handBackSlots_eq (xs : List InFlight) (s : State) :
    handBackSlots xs s = (xs.filter InFlight.slotHeld).foldl (fun t _ => t.handBackSlot) s := by
  rw [List.foldl_filter, handBackSlots]

/-- A job as the jobs of a list are returned, by the list itself. -/
theorem afterReturn_eq (xs : List InFlight) (j : LabelJob) : j.afterReturn (xs.map InFlight.seq) =
    match j.state with
    | .sent n => if xs.any fun x => x.seq == n then { j with state := .queued } else j
    | .templateWait => if xs = [] then j else { j with state := .queued }
    | .queued => j := by
  unfold LabelJob.afterReturn
  cases j.state <;> simp

/-! ### What an F does to the jobs in flight (R178) -/

theorem completeMany_eq (k : Nat) (s : State) :
    completeMany k s = (List.replicate k ()).foldl (fun t _ => t.completeOldest) s := by
  induction k generalizing s with
  | zero => rfl
  | succ k ih => rw [completeMany, ih, List.replicate_succ, List.foldl_cons]

theorem settleJobs_found {named k : Nat} (h : (s.prn.inFlight.findIdx? fun x => x.seq == named) = some k) :
    s.settleJobs named = (completeMany k s).returnAll := by
  simp only [State.settleJobs, h]

theorem settleJobs_absent {named : Nat} (h : (s.prn.inFlight.findIdx? fun x => x.seq == named) = none) :
    s.settleJobs named = if named = s.prn.nextSeq then completeMany s.prn.inFlight.length s
      else s.returnAll.markRisk s.prn.inFlight := by
  simp only [State.settleJobs, h]

/-- The frames of the jobs of a list are the ones marked, each once however often it is named. -/
theorem markRisk_eq (xs : List InFlight) (s : State) : s.markRisk xs =
    { s with rol := { s.rol with frames := s.rol.frames.map fun f =>
      if ∃ x ∈ xs, x.roll = f.roll ∧ x.frame = f.number then { f with duplicateRisk := true } else f } } := by
  induction xs generalizing s with
  | nil => simp [State.markRisk]
  | cons x xs ih =>
    have hcons : s.markRisk (x :: xs) =
        (s.modFrame x.roll x.frame fun f => { f with duplicateRisk := true }).markRisk xs := rfl
    rw [hcons, ih, modFrame_eq]
    simp only [List.map_map]
    congr 2
    refine List.map_congr_left fun f _ => ?_
    by_cases hx : f.roll = x.roll ∧ f.number = x.frame
    · simp [hx]
    · have hx' : ¬ (x.roll = f.roll ∧ x.frame = f.number) := fun h => hx ⟨h.1.symm, h.2.symm⟩
      simp [hx, hx']

end

end Sys2Proof.Machine
end

section
/-! SUPPORT. The frames of the printer as they are heard, and what D, F, Y and the two timers do (R170, R175, R177 to R181). -/

namespace Sys2Proof.Machine

section

variable {s : State} {x : InFlight} {rest : List InFlight}

/-! ### A frame of the printer is heard (R170) -/

/-- Characters heard by an event, in OFF none. -/
theorem hear_begun (cs : List PrinterChar) (s : State) : s.begun.hear cs =
    if s.prn.state = .off then s.begun
    else (s.prn.receiver.takeAll cs).2.foldl State.judged
      { s.begun with prn := { s.prn with receiver := (s.prn.receiver.takeAll cs).1 } } := rfl

theorem chars_done (q : Nat) : (PrinterEvent.done q).chars =
    [0x02, sequenceChar q, 0x44, 0x03, sequenceChar q ^^^ 0x44 ^^^ 0x03].map fun b =>
      { char := b, parityError := false } := by
  simp [PrinterEvent.chars, printerFrame]

theorem chars_ready (q : Nat) : (PrinterEvent.ready q).chars =
    [0x02, sequenceChar q, 0x59, 0x03, sequenceChar q ^^^ 0x59 ^^^ 0x03].map fun b =>
      { char := b, parityError := false } := by
  simp [PrinterEvent.chars, printerFrame]

theorem chars_fault (q n : Nat) (code : PrinterCode) : (PrinterEvent.fault q code n).chars =
    [0x02, sequenceChar q, 0x46, codeChar code, sequenceChar n, 0x03,
      sequenceChar q ^^^ 0x46 ^^^ codeChar code ^^^ sequenceChar n ^^^ 0x03].map fun b =>
      { char := b, parityError := false } := by
  simp [PrinterEvent.chars, printerFrame]

/-- The state in which a good frame of the printer acts: the receiver hunting, and a partial frame that the STX of the good
one ended captured as a bad one (R170). -/
def State.frameHeard (s : State) : State :=
  let hunting := { s.begun with prn := { s.prn with receiver := .hunting } }
  match s.prn.receiver with
  | .hunting => hunting
  | .collecting _ => (hunting.capture .prn
      { kind := .badFrame, date := none, station := none, order := none, item := none, roll := none, frame := none
        further := false }).transmit

@[simp] theorem frameHeard_prn (s : State) : s.frameHeard.prn = { s.prn with receiver := .hunting } := by
  unfold State.frameHeard
  cases s.prn.receiver <;> simp

/-- Characters that end no frame are judged as nothing. -/
theorem foldl_judged_nothing (k : Nat) (gots : List PrinterGot) (s : State) :
    (List.replicate k PrinterGot.nothing ++ gots).foldl State.judged s = gots.foldl State.judged s := by
  induction k with
  | zero => rfl
  | succ k ih => exact ih

/-- A frame that a hunting receiver takes as good acts, a partial frame before it captured (R170). -/
theorem hear_good {e : PrinterEvent} {k : Nat} (hoff : s.prn.state ≠ .off)
    (hdue : ∀ cs, s.prn.receiver = .collecting cs → checkDue cs = false)
    (he : PrinterReceiver.hunting.takeAll e.chars = (.hunting, .nothing :: (List.replicate k .nothing ++ [.good e]))) :
    event (State.hear e.chars) s = .next (s.frameHeard.act e).transmit := by
  have hheard : s.begun.hear e.chars = (s.frameHeard.act e).transmit := by
    rw [hear_begun, if_neg hoff]
    unfold State.frameHeard
    cases hr : s.prn.receiver with
    | hunting =>
      rw [he]
      exact foldl_judged_nothing k [.good e] _
    | collecting cs =>
      rw [collecting_takes_chars cs (hdue cs hr) e _ _ he]
      exact foldl_judged_nothing k [.good e] _
  rw [event_eq, hheard, transmit_transmit]

theorem does_printerDone (hoff : s.prn.state ≠ .off)
    (hdue : ∀ cs, s.prn.receiver = .collecting cs → checkDue cs = false) (q : Fin 16) :
    Does (.printerDone q) s (s.frameHeard.printerDone q) :=
  hear_good (e := .done q) (k := 3) hoff hdue (hunting_takes_done q)

theorem does_printerReady (hoff : s.prn.state ≠ .off)
    (hdue : ∀ cs, s.prn.receiver = .collecting cs → checkDue cs = false) (q : Fin 16) :
    Does (.printerReady q) s s.frameHeard.printerReady :=
  hear_good (e := .ready q) (k := 3) hoff hdue (hunting_takes_ready q)

theorem does_printerFault (hoff : s.prn.state ≠ .off)
    (hdue : ∀ cs, s.prn.receiver = .collecting cs → checkDue cs = false) (q n : Fin 16) (code : PrinterCode) :
    Does (.printerFault q code n) s (s.frameHeard.printerFault code n) :=
  hear_good (e := .fault q code n) (k := 5) hoff hdue (hunting_takes_fault q n code)

/-! ### What D, F and Y do (R175, R177 to R179) -/

/-- A D that names the oldest job completes it, and the link goes on sending (R175, R177). -/
theorem printerDone_oldest {seq : Nat} (hs : s.prn.state = .sending) (hx : s.prn.inFlight = x :: rest)
    (hseq : x.seq = seq) : s.printerDone seq =
      let t := s.completeOldest
      State.attempt { t with prn := if rest = [] then { t.prn with state := .idle, printerTimer := none }
        else { t.prn with printerTimer := some 10000 } } := by
  have hleft : s.completeOldest.prn.inFlight = rest := by rw [completeOldest_prn hx]
  simp only [State.printerDone, hs, hx, if_pos hseq]
  subst hleft
  split <;> rfl

/-- A D that names another job is OUT_OF_ORDER (R177). -/
theorem printerDone_outOfOrder {seq : Nat} (hs : s.prn.state = .sending) (hx : s.prn.inFlight = x :: rest)
    (hseq : x.seq ≠ seq) :
    s.printerDone seq = ((s.capture .prn (jobCapture .outOfOrder (some x))).returnAll).toHeld := by
  simp only [State.printerDone, hs, hx, if_neg hseq]

/-- A D in any other state than SENDING does nothing (R177). -/
theorem printerDone_notSending {seq : Nat} (hs : s.prn.state ≠ .sending) : s.printerDone seq = s := by
  unfold State.printerDone
  split
  · next h _ => exact absurd h hs
  · rfl

/-- An F is captured with the job it names, settles the jobs of a link that is SENDING, and the link is HELD (R178). -/
theorem printerFault_heard {code : PrinterCode} {named : Nat} (hs : s.prn.state ≠ .off) : s.printerFault code named =
    let u := s.capture .prn (jobCapture (codeFault code) (s.prn.inFlight.find? fun x => x.seq == named))
    if s.prn.state = .sending then (u.settleJobs named).toHeld else u.toHeld := by
  unfold State.printerFault
  cases h : s.prn.state with
  | off => exact absurd h hs
  | idle | sending | held | asking | down => rfl

/-- A Y in HELD, ASKING or DOWN ends that state with a sending attempt (R179). -/
theorem printerReady_waiting (hs : s.prn.state = .held ∨ s.prn.state = .asking ∨ s.prn.state = .down) :
    s.printerReady = State.attempt { s with prn := { s.prn with state := .idle, statusTimer := none } } := by
  unfold State.printerReady
  rcases hs with h | h | h <;> rw [h] <;> rfl

/-- A Y in IDLE or SENDING does nothing (R179). -/
theorem printerReady_working (hs : s.prn.state = .idle ∨ s.prn.state = .sending) : s.printerReady = s := by
  unfold State.printerReady
  rcases hs with h | h <;> rw [h]

/-! ### The two timers (R180, R181) -/

/-- The link goes to ASKING: a Q is sent, and the status wait runs (R169, R180). -/
theorem toAsking_eq (s : State) : (s.sendAsk.modPrn fun p =>
    { p with printerTimer := none, statusTimer := some Config.statusWait }).setLink .asking =
      { s with
        prn := { s.prn with state := .asking, printerTimer := none, statusTimer := some 10000, paused := false
                            roomReport := false }
        outputs := s.outputs ++ [.printerFrame (onLine (askFrame s.prn.nextSeq))] } := rfl

theorem printerTimedOut_eq (s : State) : s.printerTimedOut =
    if s.prn.state = .sending ∧ s.prn.printerTimer ≠ none then
      let u := s.capture .prn (jobCapture .printerTimeout s.prn.inFlight.head?)
      let v := (u.markRisk s.prn.inFlight).returnAll
      { v with
        prn := { v.prn with state := .asking, printerTimer := none, statusTimer := some 10000, paused := false
                            roomReport := false }
        outputs := v.outputs ++ [.printerFrame (onLine (askFrame v.prn.nextSeq))] }
    else s := by
  simp only [State.printerTimedOut, Option.isSome_iff_ne_none, State.capture_prn, toAsking_eq]

theorem statusWaited_eq (s : State) : s.statusWaited =
    if (s.prn.state = .asking ∨ s.prn.state = .down) ∧ s.prn.statusTimer ≠ none then
      { s with
        prn := { s.prn with state := .down, statusTimer := some 10000, paused := false, roomReport := false }
        outputs := s.outputs ++ [.printerFrame (onLine (askFrame s.prn.nextSeq))] }
    else s := by
  unfold State.statusWaited
  cases s.prn.state with
  | off | idle | sending | held => exact (if_neg (by simp)).symm
  | asking | down =>
    simp only [reduceCtorEq, true_or, or_true, true_and, Option.isSome_iff_ne_none]
    rfl

end

/-- Settles O55: the frames heard, each by what it does in its link state; the timers; and the jobs they settle. -/
theorem printerEventsSettleJobs : Obligations.PrinterEventsSettleJobs := by
  refine ⟨?_, ?_, ?_, ?_, ?_, ?_, ?_, fun s xs => markRisk_eq xs s⟩
  · intro q n code s heard y
    refine ⟨?_, ?_, ?_⟩
    · exact congrArg (fun cs => event (State.hear cs) s) (chars_done q)
    · exact congrArg (fun cs => event (State.hear cs) s) (chars_ready q)
    · exact congrArg (fun cs => event (State.hear cs) s) (chars_fault q n code)
  · intro q n code s hdue hunting h
    have hprn : s.frameHeard.prn = { s.prn with receiver := .hunting } := frameHeard_prn s
    refine ⟨?_, ?_, ?_, ?_, ?_, ?_⟩
    · intro hoff
      have hdeaf (cs : List PrinterChar) : event (State.hear cs) s = .next s.begun.transmit := by
        rw [event_eq, hear_begun, if_pos hoff]
      exact ⟨hdeaf _, hdeaf _, hdeaf _⟩
    · intro hs x rest hx
      have hdone := does_printerDone (by rw [hs]; decide) hdue q
      split
      · next hq => rwa [printerDone_oldest (by rw [hprn]; exact hs) (by rw [hprn]; exact hx) hq] at hdone
      · next hq => rwa [printerDone_outOfOrder (by rw [hprn]; exact hs) (by rw [hprn]; exact hx) hq] at hdone
    · intro hs
      have hoff : s.prn.state ≠ .off := fun h => by simp [h] at hs
      have hsending : s.prn.state ≠ .sending := fun h => by simp [h] at hs
      have hdone := does_printerDone hoff hdue q
      rwa [printerDone_notSending (by rw [hprn]; exact hsending)] at hdone
    · intro hoff
      have hfault := does_printerFault hoff hdue q n code
      rw [printerFault_heard (by rw [hprn]; exact hoff), hprn] at hfault
      exact hfault
    · intro hs
      have hoff : s.prn.state ≠ .off := fun h => by simp [h] at hs
      have hready := does_printerReady hoff hdue q
      rwa [printerReady_waiting (by rw [hprn]; exact hs)] at hready
    · intro hs
      have hoff : s.prn.state ≠ .off := fun h => by simp [h] at hs
      have hready := does_printerReady hoff hdue q
      rwa [printerReady_working (by rw [hprn]; exact hs)] at hready
  · intro s
    exact ⟨congrArg (fun t => Host.Outcome.next (State.transmit t)) (printerTimedOut_eq s.begun),
      congrArg (fun t => Host.Outcome.next (State.transmit t)) (statusWaited_eq s.begun)⟩
  · intro s x rest hx
    rw [completeOldest_cons hx, framePrinted_eq, modFrame_eq]
    rfl
  · exact fun s roll frame x e o a hf he ho ha hsum => postMount_present hf he ho ha hsum
  · intro s
    have hjobs : LabelJob.afterReturn (s.prn.inFlight.map InFlight.seq) = _ := funext (afterReturn_eq s.prn.inFlight)
    simp only [State.returnAll, State.returnJobs, handBackSlots_eq, hjobs]
    rfl
  · intro s n k
    simp only [← completeMany_eq]
    exact ⟨settleJobs_found, settleJobs_absent⟩

end Sys2Proof.Machine
end

section
/-! SUPPORT. The journal and the day clock by themselves: the changes that the commands make of each, and the laws that
every change keeps (R33, R135 to R137, R139, R143 to R146, R203). -/

namespace Sys2Proof.Machine

/-! ### The changes of the journal -/

/-- A change of the journal: a slot reserved or an ADJUST entry appended where there is room, a slot handed back, an entry
in a reserved slot, entries released, and the two kinds of reset. -/
inductive Jnl.Change (j : Jnl) : Jnl → Prop
  | reserve (room : j.hasRoom) : Jnl.Change j { j with reserved := j.reserved + 1 }
  | handBack : Jnl.Change j { j with reserved := j.reserved - 1 }
  | fill (e : Nat → JournalEntry) (numbered : ∀ n, (e n).seq = n) : Jnl.Change j (j.append true e)
  | adjust (e : Nat → JournalEntry) (numbered : ∀ n, (e n).seq = n) (room : j.hasRoom) : Jnl.Change j (j.append false e)
  | release (number : Nat) : Jnl.Change j { j with entries := releasedList number j.entries }
  | keepReset : Jnl.Change j { j with reserved := 0 }
  | coldReset : Jnl.Change j { entries := [], reserved := 0, next := 1 }

/-- The law of the sequence numbers, of the journal by itself (R135, R136). -/
def Jnl.Ordered (j : Jnl) : Prop :=
  List.Pairwise (fun a b : JournalEntry => a.seq < b.seq) j.entries ∧ ∀ e ∈ j.entries, e.seq < j.next

/-- The law of the slots, of the journal by itself (R135, R137). -/
def Jnl.Bounded (j : Jnl) : Prop := j.entries.length + j.reserved ≤ 256

theorem journalOrdered_iff {s : State} : JournalOrdered s ↔ s.jnl.Ordered := Iff.rfl

theorem journalBounded_iff {s : State} : JournalBounded s ↔ s.jnl.Bounded := Iff.rfl

/-- The entry appended bears the next number, which lies above every number given before (R136). -/
theorem Jnl.Ordered.append {j : Jnl} {e : Nat → JournalEntry} (fills : Bool) (numbered : ∀ n, (e n).seq = n)
    (h : j.Ordered) : (j.append fills e).Ordered := by
  obtain ⟨hrise, hbelow⟩ := h
  unfold Jnl.append
  split
  · refine ⟨List.pairwise_append.mpr ⟨hrise, List.pairwise_singleton .., ?_⟩, ?_⟩
    · simpa [numbered] using hbelow
    · intro a ha
      rcases List.mem_append.mp ha with ha | ha
      · exact Nat.lt_succ_of_lt (hbelow a ha)
      · rw [List.mem_singleton.mp ha, numbered]
        exact Nat.lt_succ_self _
  · exact ⟨hrise, hbelow⟩

theorem Jnl.Change.ordered {j k : Jnl} (c : Jnl.Change j k) (h : j.Ordered) : k.Ordered := by
  cases c with
  | fill e numbered => exact h.append true numbered
  | adjust e numbered _ => exact h.append false numbered
  | release number =>
    obtain ⟨hrise, hbelow⟩ := h
    have hkept : (releasedList number j.entries).Sublist j.entries := List.dropWhile_sublist _
    exact ⟨hrise.sublist hkept, fun e he => hbelow e (hkept.subset he)⟩
  | coldReset => exact ⟨List.Pairwise.nil, nofun⟩
  | reserve | handBack | keepReset => exact h

/-- Room is a slot neither filled nor reserved (R135, R137). -/
theorem Jnl.hasRoom.slot {j : Jnl} (room : j.hasRoom) : j.entries.length + j.reserved < 256 := by
  obtain ⟨hfree, -⟩ := room
  simp only [Jnl.free, Config.maxJournal] at hfree
  omega

theorem Jnl.Change.bounded {j k : Jnl} (c : Jnl.Change j k) (h : j.Bounded) : k.Bounded := by
  unfold Jnl.Bounded at h ⊢
  cases c with
  | reserve room => exact room.slot
  | handBack => exact (Nat.add_le_add_left (Nat.sub_le ..) _).trans h
  | fill => exact Jnl.append_bounded _ j h
  | adjust e _ room =>
    have hslot := room.slot
    rw [Jnl.append_room false e j (by omega)]
    simp only [List.length_append, List.length_singleton, Bool.false_eq_true, if_false]
    omega
  | release number =>
    have hkept : (releasedList number j.entries).length ≤ j.entries.length := (List.dropWhile_sublist _).length_le
    exact (Nat.add_le_add_right hkept _).trans h
  | keepReset => exact (Nat.le_add_right ..).trans h
  | coldReset => exact Nat.zero_le _

/-! ### The changes of the day clock -/

/-- A change of the day clock: a value set, and a minute passed with the minute timer running. A cold reset sets 0. -/
inductive Clk.Change (c : Clk) : Clk → Prop
  | set {n : Nat} (range : n ≤ 52595999) :
      Clk.Change c { minutes := n, timer := if n = 0 then none else some 60000 }
  | minute (running : c.timer.isSome) : Clk.Change c
      { minutes := if c.minutes = 0 ∨ 52595999 ≤ c.minutes then c.minutes else c.minutes + 1, timer := some 60000 }

/-- The law of the day clock, of the clock by itself (R145). -/
def Clk.Lawful (c : Clk) : Prop := c.minutes ≤ 52595999 ∧ (c.timer = none ↔ c.minutes = 0)

theorem clockLawful_iff {s : State} : ClockLawful s ↔ s.clk.Lawful := Iff.rfl

theorem Clk.Change.lawful {c d : Clk} (k : Clk.Change c d) (h : c.Lawful) : d.Lawful := by
  obtain ⟨hrange, htimer⟩ := h
  cases k with
  | set range => exact ⟨range, by simp⟩
  | minute running =>
    have hset : c.minutes ≠ 0 := fun h0 => by simp [htimer.mpr h0] at running
    refine ⟨?_, ?_⟩
    · dsimp only
      split <;> omega
    · simp only [reduceCtorEq, false_iff]
      split <;> omega

/-! ### States whose journal and day clock come from those of another -/

/-- The journal and the day clock of `s` come from those of `b` by changes of theirs. -/
def BooksFrom (b s : State) : Prop :=
  Relation.ReflTransGen Jnl.Change b.jnl s.jnl ∧ Relation.ReflTransGen Clk.Change b.clk s.clk

/-- A law that every change keeps stands at the end of a run of changes. -/
theorem law_of_changes {α : Type} {change : α → α → Prop} {law : α → Prop}
    (keep : ∀ {x y}, change x y → law x → law y) {x y : α} (changes : Relation.ReflTransGen change x y) (hx : law x) :
    law y := by
  induction changes with
  | refl => exact hx
  | tail _ c ih => exact keep c ih

section

variable {b s t : State}

theorem BooksFrom.journalOrdered (k : BooksFrom b s) (h : JournalOrdered b) : JournalOrdered s :=
  journalOrdered_iff.mpr <| law_of_changes (law := Jnl.Ordered) Jnl.Change.ordered k.1 (journalOrdered_iff.mp h)

theorem BooksFrom.journalBounded (k : BooksFrom b s) (h : JournalBounded b) : JournalBounded s :=
  journalBounded_iff.mpr <| law_of_changes (law := Jnl.Bounded) Jnl.Change.bounded k.1 (journalBounded_iff.mp h)

theorem BooksFrom.clockLawful (k : BooksFrom b s) (h : ClockLawful b) : ClockLawful s :=
  clockLawful_iff.mpr <| law_of_changes (law := Clk.Lawful) Clk.Change.lawful k.2 (clockLawful_iff.mp h)

theorem BooksFrom.refl (s : State) : BooksFrom s s := ⟨.refl, .refl⟩

/-- An operation that leaves the journal and the day clock alone. -/
theorem BooksFrom.of_same (h : BooksFrom b s) (hj : t.jnl = s.jnl) (hc : t.clk = s.clk) : BooksFrom b t :=
  ⟨hj ▸ h.1, hc ▸ h.2⟩

/-- An operation that makes one change of the journal and leaves the day clock alone. -/
theorem BooksFrom.jnl_change (h : BooksFrom b s) (c : Jnl.Change s.jnl t.jnl) (hc : t.clk = s.clk) : BooksFrom b t :=
  ⟨h.1.tail c, hc ▸ h.2⟩

/-- An operation that makes one change of the day clock and leaves the journal alone. -/
theorem BooksFrom.clk_change (h : BooksFrom b s) (c : Clk.Change s.clk t.clk) (hj : t.jnl = s.jnl) : BooksFrom b t :=
  ⟨hj ▸ h.1, h.2.tail c⟩

/-- A slot is reserved only where there is room (R33, R137). -/
theorem BooksFrom.reserveSlot (room : s.jnl.hasRoom) (h : BooksFrom b s) : BooksFrom b s.reserveSlot :=
  h.jnl_change (.reserve room) rfl

theorem BooksFrom.handBackSlot (h : BooksFrom b s) : BooksFrom b s.handBackSlot :=
  h.jnl_change (by simpa [State.handBackSlot] using Jnl.Change.handBack) (by simp)

/-- An entry of the next sequence number in a reserved slot (R36, R130, R136). -/
theorem BooksFrom.fillSlot {e : Nat → JournalEntry} (numbered : ∀ n, (e n).seq = n) (h : BooksFrom b s) :
    BooksFrom b (s.appendEntry true e) :=
  h.jnl_change (appendEntry_jnl true e s ▸ .fill e numbered) (by simp)

end

end Sys2Proof.Machine
end

section
/-! SUPPORT. The journal and the day clock at a station: its slots, its settling, its roll's end, its announces, its frames,
the end of its moves and its door (R22 to R49, R87, R98 to R110, R135 to R137, R187, R190). One lemma per operation,
`BooksFrom.<operation>`; one that leaves the journal and the clock alone is passed by `BooksFrom.of_same`. -/

namespace Sys2Proof.Machine

variable {b s : State} {st : Station}

/-! ### Settling and roll ends (R26, R38, R47, R49, R107, R108) -/

theorem BooksFrom.setMode {m : Mode} (h : BooksFrom b s) : BooksFrom b (s.setMode st m) :=
  h.of_same (by simp) (by simp)

theorem BooksFrom.holdCurrent {reason : HoldReason} (h : BooksFrom b s) : BooksFrom b (s.holdCurrent st reason) :=
  h.of_same (by simp) (by simp)

theorem BooksFrom.keepHeld {id : Nat} {reason : HoldReason} {hold : StationHold} (h : BooksFrom b s) :
    BooksFrom b (s.keepHeld st id reason hold) := h.of_same (by simp) (by simp)

theorem BooksFrom.endItem {id n : Nat} {e : ItemState} (h : BooksFrom b s) : BooksFrom b (s.endItem st id n e) :=
  h.of_same (by simp) (by simp)

theorem BooksFrom.orderDone {id : Nat} (h : BooksFrom b s) : BooksFrom b (s.orderDone st id) :=
  h.of_same (by simp) (by simp)

/-- A station that holds a slot hands it back (R26, R137). -/
theorem BooksFrom.dropSlot (h : BooksFrom b s) : BooksFrom b (s.dropSlot st) := by
  unfold State.dropSlot
  split
  · exact h
  · split
    · exact BooksFrom.handBackSlot (s := s.modContext st _) h
    · exact h

theorem BooksFrom.settle (h : BooksFrom b s) : BooksFrom b (s.settle st) := by
  have hclaim : BooksFrom b (s.dropClaim st) := h.of_same (by simp) (by simp)
  exact (hclaim.dropSlot (st := st)).of_same (by simp [State.settle]) (by simp)

theorem BooksFrom.leaveOrder (h : BooksFrom b s) : BooksFrom b (s.leaveOrder st) := h.settle

theorem BooksFrom.enterFault {c : StationFault} {u : Bool} (h : BooksFrom b s) : BooksFrom b (s.enterFault st c u) :=
  .dropSlot <| h.of_same (by simp) (by simp)

theorem BooksFrom.endItemFirst (h : BooksFrom b s) : BooksFrom b (s.endItemFirst st) := by
  simp only [State.endItemFirst]
  split
  · split
    · exact h
    · split
      · exact .settle <| .endItem h
      · exact .orderDone <| .settle <| .endItem h
  · exact h

theorem BooksFrom.endTaken (h : BooksFrom b s) : BooksFrom b (s.endTaken st) :=
  BooksFrom.setMode <| BooksFrom.leaveOrder <| .holdCurrent <| .endItemFirst h

theorem BooksFrom.takeRollEnd (h : BooksFrom b s) : BooksFrom b (s.takeRollEnd st) := by
  cases hr : s.rollAt st with
  | none => exact takeRollEnd_none hr ▸ h.endTaken
  | some r =>
    cases hb : r.back with
    | cassette => exact takeRollEnd_cassette hr hb ▸ h.endTaken
    | bulk => exact takeRollEnd_bulk hr hb ▸ .setMode h.endTaken

theorem BooksFrom.filmEnd (h : BooksFrom b s) : BooksFrom b (s.filmEnd st) := by
  have hr : BooksFrom b ((s.modDrive st Drive.stop).recordFilmEnd st) := h.of_same (by simp) (by simp)
  simp only [State.filmEnd]
  split
  · split
    · exact .takeRollEnd hr
    · exact .takeRollEnd <| .leaveOrder <| .holdCurrent hr
  · split
    · exact .enterFault hr
    · exact .takeRollEnd hr
  · exact .takeRollEnd hr

theorem BooksFrom.filmEndIfSeen (h : BooksFrom b s) : BooksFrom b (s.filmEndIfSeen st) := by
  unfold State.filmEndIfSeen
  split
  · exact .filmEnd h
  · exact h

/-! ### Announcing, taking an order, dispatch (R8, R27 to R30) -/

theorem BooksFrom.tryAnnounce {o : Order} {i : Item} (h : BooksFrom b s) : BooksFrom b (s.tryAnnounce st o i) := by
  simp only [State.tryAnnounce]
  split
  · exact h
  · split
    · exact .takeRollEnd h
    · split
      · exact .keepHeld h
      · split
        · exact .keepHeld h
        · split
          · exact h.of_same (by simp) (by simp)
          · exact .keepHeld h

theorem BooksFrom.advanceSeparator {o : Order} (h : BooksFrom b s) : BooksFrom b (s.advanceSeparator st o) := by
  simp only [State.advanceSeparator]
  split
  · exact h
  · split
    · exact .takeRollEnd h
    · split
      · exact .keepHeld h
      · exact .filmEndIfSeen <| BooksFrom.setMode (s := s.reserveRecords 1) h

/-- A run whose changes of the journal and of the day clock are changes of theirs. -/
def KeepsBooks (b : State) (f : State → State) : Prop := ∀ s : State, BooksFrom b s → BooksFrom b (f s)

theorem KeepsBooks.announceFrom {again : State → State} (ha : KeepsBooks b again) (fuel : Nat) (st : Station) :
    KeepsBooks b (announceFrom again fuel st) := by
  induction fuel with
  | zero => exact fun _ h => h
  | succ fuel ih =>
    intro s h
    simp only [Machine.announceFrom]
    split
    · exact h
    · split
      · exact ha _ <| .setMode <| .orderDone h
      · split
        · exact ih _ <| .endItem h
        · exact .tryAnnounce h

theorem KeepsBooks.takeOrder {again : State → State} (ha : KeepsBooks b again) (st : Station) (o : Order) :
    KeepsBooks b (State.takeOrder again st o) := by
  intro s h
  simp only [State.takeOrder]
  split
  · exact .advanceSeparator h
  · exact ha.announceFrom _ st _ h

theorem KeepsBooks.giveBack {again : State → State} (ha : KeepsBooks b again) (st : Station) :
    KeepsBooks b (State.giveBack again st) := by
  intro s h
  unfold State.giveBack
  split
  · split
    · exact ha.takeOrder st _ s h
    · exact h
  · exact h

theorem KeepsBooks.offer {again : State → State} (ha : KeepsBooks b again) (st : Station) :
    KeepsBooks b (State.offer again st) := by
  intro s h
  unfold State.offer
  split
  · split
    · exact ha.takeOrder st _ s h
    · exact h
  · exact h

theorem KeepsBooks.dispatchRun {again : State → State} (ha : KeepsBooks b again) : KeepsBooks b (dispatchRun again) :=
  fun s h =>
    ha.offer .d _ <| ha.offer .b _ <| ha.offer .a _ <| ha.giveBack .d _ <| ha.giveBack .b _ <| ha.giveBack .a s h

theorem dispatchTo_keepsBooks (depth : Nat) : KeepsBooks b (dispatchTo depth) := by
  induction depth with
  | zero => exact fun _ h => h
  | succ depth ih => exact ih.dispatchRun

theorem BooksFrom.dispatch (h : BooksFrom b s) : BooksFrom b s.dispatch := dispatchTo_keepsBooks _ s h

theorem BooksFrom.announce (h : BooksFrom b s) : BooksFrom b (s.announce State.dispatch st) :=
  KeepsBooks.announceFrom (fun _ => .dispatch) _ st s h

theorem BooksFrom.becomeReady (h : BooksFrom b s) : BooksFrom b (s.becomeReady st) := .dispatch <| .setMode h

/-! ### Slots and requests to the generator (R33, R34, R41, R46, R137) -/

theorem BooksFrom.genFaultUnfired (h : BooksFrom b s) : BooksFrom b (s.genFaultUnfired st) := by
  have hl : BooksFrom b ((s.holdCurrent st .generator).leaveOrder st) := .leaveOrder <| .holdCurrent h
  simp only [State.genFaultUnfired]
  split
  · exact .becomeReady hl
  · exact hl

theorem BooksFrom.placeRequest {cls energy : Nat} (h : BooksFrom b s) : BooksFrom b (s.placeRequest st cls energy) := by
  unfold State.placeRequest
  split
  · exact .genFaultUnfired h
  · exact h.of_same (by simp) (by simp)

theorem BooksFrom.claim {early : Bool} (h : BooksFrom b s) : BooksFrom b (s.claim early st) := by
  simp only [State.claim]
  split
  · split
    · cases early with
      | true => exact .placeRequest h
      | false => exact .placeRequest <| BooksFrom.setMode (s := s.modContext st _) h
    · exact h
  · exact h

/-- A station takes a slot where there is room, and claims with it (R33, R34). -/
theorem BooksFrom.claimSlot {early : Bool} (room : s.jnl.hasRoom) (h : BooksFrom b s) :
    BooksFrom b ((s.takeSlot st).claim early st) :=
  BooksFrom.claim (s := s.takeSlot st) (h.reserveSlot room)

theorem BooksFrom.beginEntry (h : BooksFrom b s) : BooksFrom b (s.beginEntry st) := by
  unfold State.beginEntry
  split
  · exact h
  · split
    · next room => exact h.claimSlot room
    · split
      · exact .setMode h
      · exact .keepHeld <| .settle h

theorem BooksFrom.earlyRequest (h : BooksFrom b s) : BooksFrom b (s.earlyRequest st) := by
  unfold State.earlyRequest
  split
  · exact h
  · split
    · next due =>
      obtain ⟨-, -, room⟩ := due
      exact h.claimSlot room
    · exact h

theorem BooksFrom.askSlotAgain (h : BooksFrom b s) : BooksFrom b (s.askSlotAgain st) := by
  simp only [State.askSlotAgain]
  split
  · split
    · next room => exact BooksFrom.claimSlot (s := s.modSeq st _) room h
    · exact h
  · exact h

/-! ### Frames (R35, R36, R39, R40, R44, R87) -/

theorem BooksFrom.advance {early : Bool} (h : BooksFrom b s) : BooksFrom b (s.advance early st) := by
  have hm : BooksFrom b ((s.startMove st .advance).setMode st .advancing) := .setMode h
  cases early with
  | true => exact .filmEndIfSeen <| .earlyRequest hm
  | false => exact .filmEndIfSeen hm

theorem BooksFrom.recordShot {kind : FrameKind} (h : BooksFrom b s) : BooksFrom b (s.recordShot st kind) := by
  unfold State.recordShot
  split <;> exact h

theorem BooksFrom.endGrant (h : BooksFrom b s) : BooksFrom b (s.endGrant st) := h.of_same (by simp) (by simp)

/-- The EXPOSURE entry goes into the slot that the station holds (R36). -/
theorem BooksFrom.postExposure {roll frame : Nat} (h : BooksFrom b s) : BooksFrom b (s.postExposure st roll frame) := by
  unfold State.postExposure
  split
  · exact h
  · split
    · exact h
    · exact .fillSlot (fun _ => rfl) <| h.of_same (by simp) (by simp)

theorem BooksFrom.completeEntry (h : BooksFrom b s) : BooksFrom b (s.completeEntry st) := by
  simp only [State.completeEntry]
  split
  · next r _ _ =>
    have hposted : BooksFrom b (((s.endGrant st).recordShot st .exposed).postExposure st r.number r.next) :=
      .postExposure <| .recordShot <| .endGrant h
    exact .advance hposted
  · exact h

theorem BooksFrom.spoilAndLeave (h : BooksFrom b s) : BooksFrom b (s.spoilAndLeave st) :=
  .advance <| .leaveOrder <| .recordShot h

theorem BooksFrom.capture {u : Unit5} {c : Capture} (h : BooksFrom b s) : BooksFrom b (s.capture u c) :=
  h.of_same (by simp) (by simp)

theorem BooksFrom.misfire (h : BooksFrom b s) : BooksFrom b (s.misfire st) := by
  have hspoiled {t : State} (ht : BooksFrom b t) : BooksFrom b (((t.endGrant st).recordShot st .spoiled).dropSlot st) :=
    .dropSlot <| .recordShot <| .endGrant ht
  simp only [State.misfire]
  split
  · split
    · exact .advance <| hspoiled <| .capture h
    · exact .advance <| hspoiled h
  · exact h

theorem BooksFrom.confirmPop (h : BooksFrom b s) : BooksFrom b (s.confirmPop st) := by
  simp only [State.confirmPop]
  split
  · split
    · exact h.of_same (by simp) (by simp)
    · exact .completeEntry h
  · exact h

theorem BooksFrom.popReport {act : State → State} (hact : KeepsBooks b act) (h : BooksFrom b s) :
    BooksFrom b (s.popReport st act) := by
  simp only [State.popReport]
  split
  · exact h
  · exact hact _ h
  · exact .spoilAndLeave <| .endGrant h
  · exact h.of_same (by simp) (by simp)

theorem BooksFrom.genFaultHolder {given : Nat} (h : BooksFrom b s) : BooksFrom b (s.genFaultHolder st given) := by
  simp only [State.genFaultHolder]
  split
  · exact h
  · split
    · exact .spoilAndLeave h
    · exact .becomeReady <| .leaveOrder h
  all_goals
    split
    · exact .spoilAndLeave <| .holdCurrent h
    · exact .genFaultUnfired h

theorem BooksFrom.genFaultWaiting {listed : List GenRequest} (h : BooksFrom b s) :
    BooksFrom b (s.genFaultWaiting listed st) := by
  unfold State.genFaultWaiting
  split
  · exact .genFaultUnfired h
  · exact h

theorem BooksFrom.enterGenFault (h : BooksFrom b s) : BooksFrom b s.enterGenFault := by
  simp only [State.enterGenFault]
  split
  · exact .genFaultWaiting <| .genFaultWaiting <| .genFaultWaiting <| .genFaultHolder h
  · exact .genFaultWaiting <| .genFaultWaiting <| .genFaultWaiting h

theorem BooksFrom.leave (h : BooksFrom b s) : BooksFrom b (s.leave st) := by
  unfold State.leave
  split
  case h_6 =>
    split
    · split
      · exact .spoilAndLeave <| BooksFrom.endGrant h
      · exact h
    · exact .becomeReady <| .leaveOrder h
  case h_1 | h_2 => exact .becomeReady <| .leaveOrder h
  case h_3 | h_4 | h_5 => exact .leaveOrder h
  all_goals exact h

/-! ### The end of a move, jams, recovery, the door (R37 to R40, R48, R49, R98 to R102, R110, R187, R190) -/

theorem BooksFrom.rest (h : BooksFrom b s) : BooksFrom b (s.rest st) := by
  unfold State.rest
  split
  · exact .takeRollEnd h
  · exact .becomeReady h

theorem BooksFrom.itemOver {c : ItemContext} (h : BooksFrom b s) : BooksFrom b (s.itemOver st c) := by
  have he : BooksFrom b ((s.endItem st c.order c.item .done).settle st) := .settle <| .endItem h
  simp only [State.itemOver]
  split
  · split
    · exact .takeRollEnd he
    · exact .announce he
  · exact .rest <| .orderDone he

theorem BooksFrom.advanceOver (h : BooksFrom b s) : BooksFrom b (s.advanceOver st) := by
  unfold State.advanceOver
  split
  · exact .enterFault h
  · split
    · exact .rest h
    · split
      · exact .itemOver h
      · split
        · exact .takeRollEnd h
        · split
          · exact h.of_same (by simp) (by simp)
          · exact .setMode h
          · exact .beginEntry h

theorem BooksFrom.leaderOn (h : BooksFrom b s) : BooksFrom b (s.leaderOn st) := by
  unfold State.leaderOn
  split
  · exact .filmEndIfSeen h
  · split
    · exact .becomeReady h
    · exact h

theorem BooksFrom.leaderOver (h : BooksFrom b s) : BooksFrom b (s.leaderOver st) := .leaderOn h

theorem BooksFrom.recovered (h : BooksFrom b s) : BooksFrom b (s.recovered st) :=
  .rest <| BooksFrom.leaveOrder <| .holdCurrent h

theorem BooksFrom.pullOver (h : BooksFrom b s) : BooksFrom b (s.pullOver st) := by
  unfold State.pullOver
  split
  · exact .leaderOver <| .setMode h
  · exact .recovered h

theorem BooksFrom.moveOver {m : Move} (h : BooksFrom b s) : BooksFrom b (s.moveOver st m) := by
  cases m with
  | leader => exact .leaderOver h
  | recovery => exact .pullOver h
  | rewind => exact h
  | advance =>
    simp only [State.moveOver]
    split
    · split
      · exact .rest h
      · exact .announce h
    · exact .advanceOver h
    · exact .rest h

theorem BooksFrom.jam {m : Move} (h : BooksFrom b s) : BooksFrom b (s.jam st m) := by
  have hc : BooksFrom b (s.capture (stationUnit st) (s.jamCapture st (s.jamFault st m))) := .capture h
  simp only [State.jam]
  split
  · exact hc
  · split <;> exact .enterFault hc

theorem BooksFrom.recover (h : BooksFrom b s) : BooksFrom b (s.recover st) := by
  unfold State.recover
  split
  · split
    · exact .filmEndIfSeen h
    · split
      · exact BooksFrom.setMode (s := s.modSeq st _) h
      · exact .recovered h
      · exact h
      · exact h
  · exact h

theorem BooksFrom.spoilAtDoor (h : BooksFrom b s) : BooksFrom b (s.spoilAtDoor st) := by
  unfold State.spoilAtDoor
  split
  · split
    · exact .recordShot h
    · exact h
  · exact h

theorem BooksFrom.rollOpened (h : BooksFrom b s) : BooksFrom b (s.rollOpened st) := by
  unfold State.rollOpened
  split
  · exact h
  · split <;> exact h.of_same (by simp) (by simp)

theorem BooksFrom.doorOpen (h : BooksFrom b s) : BooksFrom b (s.doorOpen st) := by
  simp only [State.doorOpen]
  split
  · exact h
  · exact .setMode <| .rollOpened h
  · exact .setMode <| .rollOpened <| BooksFrom.leaveOrder <| .holdCurrent <| .spoilAtDoor h

end Sys2Proof.Machine
end

section
/-! SUPPORT. The journal and the day clock under the label path, every request and every event, so under every step (R130
to R146, R150 to R153, R162 to R182, R197, R203). -/

namespace Sys2Proof.Machine

section

variable {b s : State}

/-! ### The label path (R130, R150 to R153, R162, R173 to R176) -/

theorem State.examineHead_jnl (s : State) : s.examineHead.jnl = s.jnl := by
  unfold State.examineHead
  (repeat' split) <;> rfl

theorem State.takeHead_jnl (j : LabelJob) (seq : Nat) (s : State) : (s.takeHead j seq).jnl = s.jnl :=
  State.examineHead_jnl _

theorem BooksFrom.examineHead (h : BooksFrom b s) : BooksFrom b s.examineHead :=
  h.of_same s.examineHead_jnl (examineHead_keeps s).clk

/-- A charged job is sent with a slot reserved for it, which the attempt has found room for (R173). -/
theorem BooksFrom.sendJob {j : LabelJob} (room : j.charge = true → s.jnl.hasRoom) (h : BooksFrom b s) :
    BooksFrom b (s.sendJob j) := by
  have hslot : BooksFrom b (if j.charge then s.reserveSlot else s) := by
    split
    · next charged => exact h.reserveSlot (room charged)
    · exact h
  refine hslot.of_same (by simp [State.sendJob, State.setLink, State.takeHead_jnl]) ?_
  exact (sendJob_keeps j s).clk.trans (by split <;> rfl)

theorem BooksFrom.sendJobs (fuel : Nat) (h : BooksFrom b s) : BooksFrom b (sendJobs fuel s) := by
  induction fuel generalizing s with
  | zero => exact h
  | succ fuel ih =>
    unfold Machine.sendJobs
    split
    · exact h
    · split
      · exact h
      · next hroom => exact ih <| .sendJob (fun charged => not_not.mp fun full => hroom ⟨charged, full⟩) h

theorem BooksFrom.attempt (h : BooksFrom b s) : BooksFrom b s.attempt := .sendJobs _ h

theorem BooksFrom.attemptAgain (h : BooksFrom b s) : BooksFrom b s.attemptAgain := by
  unfold State.attemptAgain
  split
  · exact .attempt h
  · exact h

theorem BooksFrom.examine (h : BooksFrom b s) : BooksFrom b s.examine := by
  simp only [State.examine]
  split
  · split
    · exact .attempt <| .examineHead h
    · exact .examineHead h
  · exact .examineHead h

theorem BooksFrom.examineNew {had : Bool} (h : BooksFrom b s) : BooksFrom b (s.examineNew had) := by
  cases had
  · exact .examine h
  · exact h

theorem BooksFrom.queueJob {f : Frame} {charge : Bool} (h : BooksFrom b s) : BooksFrom b (s.queueJob f charge) := by
  have hf : BooksFrom b (if (s.orderOf f).isSome then s else s.useFree) := by split <;> exact h
  exact hf

theorem BooksFrom.framePrinted {roll frame : Nat} (h : BooksFrom b s) : BooksFrom b (s.framePrinted roll frame) :=
  h.of_same (by simp [State.framePrinted]) (by simp [State.framePrinted])

/-- The MOUNT entry goes into the slot that the job holds (R130). -/
theorem BooksFrom.postMount {roll frame : Nat} (h : BooksFrom b s) : BooksFrom b (s.postMount roll frame) := by
  simp only [State.postMount]
  refine .fillSlot (fun _ => rfl) ?_
  split <;> exact h.of_same (by simp) (by simp)

theorem BooksFrom.removeSent {seq : Nat} (h : BooksFrom b s) : BooksFrom b (s.removeSent seq) := h

theorem BooksFrom.completeOldest (h : BooksFrom b s) : BooksFrom b s.completeOldest := by
  cases hx : s.prn.inFlight with
  | nil => simpa only [State.completeOldest, hx] using h
  | cons x rest =>
    rw [completeOldest_cons hx]
    have ht : BooksFrom b ((s.modPrn fun p => { p with inFlight := rest }).framePrinted x.roll x.frame) :=
      .framePrinted h
    refine .removeSent ?_
    split
    · exact .postMount ht
    · exact ht

theorem BooksFrom.completeMany (n : Nat) (h : BooksFrom b s) : BooksFrom b (completeMany n s) := by
  induction n generalizing s with
  | zero => exact h
  | succ n ih => exact ih <| .completeOldest h

theorem BooksFrom.handBackSlots (xs : List InFlight) (h : BooksFrom b s) : BooksFrom b (handBackSlots xs s) := by
  unfold Machine.handBackSlots
  induction xs generalizing s with
  | nil => exact h
  | cons x xs ih =>
    refine ih ?_
    dsimp only
    split
    · exact .handBackSlot h
    · exact h

theorem BooksFrom.returnAll (h : BooksFrom b s) : BooksFrom b s.returnAll :=
  BooksFrom.examineHead (s := State.modLbl _ _) <| .handBackSlots s.prn.inFlight h

theorem BooksFrom.markRisk (xs : List InFlight) (h : BooksFrom b s) : BooksFrom b (s.markRisk xs) := by
  rw [markRisk_eq]
  exact h

/-! ### The printer's reports and timers (R175 to R181) -/

theorem BooksFrom.toHeld (h : BooksFrom b s) : BooksFrom b s.toHeld := h

theorem BooksFrom.transmit (h : BooksFrom b s) : BooksFrom b s.transmit := h

theorem BooksFrom.settleJobs {named : Nat} (h : BooksFrom b s) : BooksFrom b (s.settleJobs named) := by
  unfold State.settleJobs
  split
  · exact .returnAll <| .completeMany _ h
  · split
    · exact .completeMany _ h
    · exact .markRisk _ <| .returnAll h

theorem BooksFrom.printerDone {seq : Nat} (h : BooksFrom b s) : BooksFrom b (s.printerDone seq) := by
  simp only [State.printerDone]
  split
  · split
    · split <;> exact .attempt (BooksFrom.completeOldest h)
    · exact .toHeld <| .returnAll <| .capture h
  · exact h

theorem BooksFrom.printerFault {code : PrinterCode} {named : Nat} (h : BooksFrom b s) :
    BooksFrom b (s.printerFault code named) := by
  unfold State.printerFault
  split
  case h_1 => exact h
  case h_2 => exact .toHeld <| .settleJobs <| .capture h
  all_goals exact .toHeld <| .capture h

theorem BooksFrom.printerReady (h : BooksFrom b s) : BooksFrom b s.printerReady := by
  unfold State.printerReady
  split
  case h_1 | h_2 | h_3 => exact .attempt h
  all_goals exact h

theorem BooksFrom.judged {got : PrinterGot} (h : BooksFrom b s) : BooksFrom b (s.judged got) := by
  cases got with
  | nothing => exact h
  | bad => exact .transmit <| .capture h
  | good e =>
    cases e with
    | done seq => exact .transmit <| .printerDone h
    | fault seq code named => exact .transmit <| .printerFault h
    | ready seq => exact .transmit <| .printerReady h

theorem BooksFrom.hear {cs : List PrinterChar} (h : BooksFrom b s) : BooksFrom b (s.hear cs) := by
  have hj (gots : List PrinterGot) : KeepsBooks b fun s => gots.foldl State.judged s := by
    induction gots with
    | nil => exact fun _ h => h
    | cons g gots ih => exact fun _ h => ih _ <| .judged h
  unfold State.hear
  split
  · exact h
  · exact hj _ _ h

theorem BooksFrom.printerTimedOut (h : BooksFrom b s) : BooksFrom b s.printerTimedOut := by
  unfold State.printerTimedOut
  split
  · extract_lets x y
    have hx : BooksFrom b x := .capture h
    exact (BooksFrom.returnAll <| .markRisk x.prn.inFlight hx).of_same
      (by simp [State.setLink, State.sendAsk, y]) (by simp [State.setLink, State.sendAsk, y])
  · exact h

theorem BooksFrom.statusWaited (h : BooksFrom b s) : BooksFrom b s.statusWaited := by
  unfold State.statusWaited
  (repeat' split) <;> exact h

theorem BooksFrom.setPrinter {f : PrinterSetReq} (h : BooksFrom b s) : BooksFrom b (s.setPrinter f) := by
  simp only [State.setPrinter]
  split
  case h_1 | h_3 => exact .attempt h
  all_goals exact h

/-! ### The requests of the order manager (R3 to R15) -/

/-- What a request answers with changes of the journal and of the day clock. -/
def BooksKept {α : Type} (owner : α → State → Answer) : Prop :=
  ∀ f {b s : State}, BooksFrom b s → BooksFrom b (owner f s).state

theorem Reads.booksKept {α : Type} {owner : α → State → Answer} (h : Reads owner) : BooksKept owner :=
  fun f _ s hs => (h f s).symm ▸ hs

theorem booksKept_orderOpen : BooksKept answerOrderOpen := by
  intro f b s h
  unfold answerOrderOpen
  (repeat' split) <;> exact h

theorem booksKept_itemAdd : BooksKept answerItemAdd := by
  intro f b s h
  unfold answerItemAdd
  (repeat' split) <;> exact h

theorem booksKept_orderSubmit : BooksKept answerOrderSubmit := by
  intro f b s h
  unfold answerOrderSubmit
  split
  · exact h
  · split
    · exact h
    · split
      · exact h
      · extract_lets u n v
        have hu : BooksFrom b u := by
          unfold u
          split <;> exact h
        exact BooksFrom.dispatch (s := State.modOrd _ _) hu

theorem booksKept_hold : BooksKept answerHold := by
  intro f b s h
  unfold answerHold
  split
  · exact h
  · split
    case h_6 =>
      split
      · exact BooksFrom.leave (s := s.holdOrder f.order .host) h
      · exact h
    all_goals exact h

theorem booksKept_release : BooksKept answerRelease := by
  intro f b s h
  unfold answerRelease
  split
  · exact h
  · split
    · exact BooksFrom.dispatch (s := s.modOrder f.order _) h
    · exact h

theorem booksKept_orderPriority : BooksKept answerOrderPriority := by
  intro f b s h
  unfold answerOrderPriority
  (repeat' split) <;> exact h

theorem BooksFrom.releaseKeeper {id : Nat} {st : Station} (h : BooksFrom b s) :
    BooksFrom b (s.releaseKeeper id st) := by
  unfold State.releaseKeeper
  split
  · split
    · exact .becomeReady h
    · exact h
  · exact h

theorem booksKept_orderCancel : BooksKept answerOrderCancel := by
  intro f b s h
  unfold answerOrderCancel
  split
  · exact h
  · split
    case h_4 | h_5 | h_6 =>
      exact .releaseKeeper <| .releaseKeeper <| .releaseKeeper <| h.of_same (by simp) (by simp)
    all_goals exact h

/-! ### The requests at a station, of the rolls and of the generator (R21, R31, R32, R42, R43, R88, R93 to R117) -/

theorem booksKept_atStation {α : Type} {n : α → Nat} {owner : α → Station → State → Answer}
    (h : ∀ f st {b s : State}, BooksFrom b s → BooksFrom b (owner f st s).state) :
    BooksKept fun f s => atStation (n f) s (owner f) := by
  intro f b s hs
  show BooksFrom b (atStation (n f) s (owner f)).state
  unfold atStation
  split
  · exact hs
  · exact h f _ hs

theorem booksKept_stationSet : BooksKept answerStationSet := booksKept_atStation fun f st b s h => by
  (repeat' split) <;> exact h

theorem booksKept_placed : BooksKept answerPlaced := booksKept_atStation fun f st b s h => by
  split
  · exact .beginEntry h
  · exact h

theorem booksKept_inputTake : BooksKept answerInputTake := booksKept_atStation fun _ _ _ _ h => h

theorem booksKept_skipItem : BooksKept answerSkipItem := booksKept_atStation fun f st b s h => by
  split
  · next c _ _ =>
    have he : BooksFrom b ((s.endItem st c.order c.item .skipped).settle st) := .settle <| .endItem h
    dsimp only
    split
    · exact .announce he
    · exact .becomeReady <| .orderDone he
  · exact h
  · exact h

theorem booksKept_abort : BooksKept answerAbort := booksKept_atStation fun f st b s h => by
  split
  · next id _ _ => exact .dispatch <| BooksFrom.leave (s := s.modOrder id _) h
  · exact h

theorem booksKept_genClear : BooksKept answerGenClear := by
  intro f b s h
  unfold answerGenClear
  (repeat' split) <;> exact h

theorem booksKept_stockSet : BooksKept answerStockSet := by
  intro f b s h
  unfold answerStockSet
  (repeat' split) <;> exact h

theorem booksKept_stockSetRemove : BooksKept answerStockSetRemove := by
  intro f b s h
  unfold answerStockSetRemove
  (repeat' split) <;> exact h

theorem booksKept_load : BooksKept answerLoad := booksKept_atStation fun f st b s h => by
  (repeat' split)
  case isFalse.isFalse.isFalse.isFalse.isFalse => exact BooksFrom.setMode (s := State.startMove _ _ _) h
  all_goals exact h

theorem booksKept_unloadEarly : BooksKept answerUnloadEarly := booksKept_atStation fun f st b s h => by
  split
  · exact h
  · split
    · exact .takeRollEnd h
    · exact h

theorem booksKept_cull : BooksKept answerCull := by
  intro f b s h
  simp only [answerCull]
  (repeat' split) <;> exact h.of_same (by simp) (by simp)

theorem BooksFrom.freeOrders (ids : List Nat) (h : BooksFrom b s) :
    BooksFrom b (ids.foldl (fun t id => t.freeOrder id) s) := by
  induction ids generalizing s with
  | nil => exact h
  | cons id ids ih => exact ih <| h.of_same (by simp) (by simp)

theorem booksKept_closeRoll : BooksKept answerCloseRoll := by
  intro f b s h
  unfold answerCloseRoll
  split
  · exact h
  · split
    · exact h
    · split
      · exact h
      · split
        · exact h
        · exact BooksFrom.freeOrders (s := s.freeRoll f.roll) _ h

theorem booksKept_confirmRoll : BooksKept answerConfirmRoll := booksKept_atStation fun f st b s h => by
  split
  · exact h
  · split
    · exact h
    · split
      case h_1 =>
        split
        · split
          · exact h
          · exact .filmEndIfSeen h
        · exact .takeRollEnd h
      case h_2 => exact .leaderOn <| BooksFrom.setMode (s := State.modDrive _ _ _) h
      case h_3 => exact BooksFrom.setMode (s := State.modRoll _ _ _) h
      all_goals exact h

theorem booksKept_declareUnloaded : BooksKept answerDeclareUnloaded := booksKept_atStation fun f st b s h => by
  split
  · exact h
  · dsimp only
    split <;> exact h.of_same (by simp) (by simp)

theorem booksKept_faultClear : BooksKept answerFaultClear := by
  intro f b s h
  unfold answerFaultClear
  split
  · exact h
  · split
    · exact h
    · simp only [taken_state, State.recoverUnit]
      split
      · exact .recover h
      · exact h

/-! ### The requests of the accounts, the journal and the day clock (R119 to R146) -/

theorem booksKept_tariffSet : BooksKept answerTariffSet := by
  intro f b s h
  unfold answerTariffSet
  split <;> exact h

theorem booksKept_accountSet : BooksKept answerAccountSet := by
  intro f b s h
  unfold answerAccountSet
  (repeat' split) <;> exact h

theorem booksKept_accountClear : BooksKept answerAccountClear := by
  intro f b s h
  unfold answerAccountClear
  (repeat' split) <;> exact h

/-- ADJUST appends its entry where there is room (R131, R139). -/
theorem booksKept_adjust : BooksKept answerAdjust := by
  intro f b s h
  simp only [answerAdjust]
  split
  · exact h
  · split
    · exact h
    · split
      · exact h
      · split
        · exact h
        · next hroom =>
          have hposted : BooksFrom b ((s.adjustAccount f.slot f.amount).appendEntry false
              (adjustEntry f.slot f.amount s.stamp)) := by
            refine h.jnl_change ?_ (by simp)
            rw [appendEntry_jnl, State.adjustAccount_jnl]
            exact .adjust _ (fun _ => rfl) (not_not.mp hroom)
          split <;> exact hposted

theorem booksKept_journalRelease : BooksKept answerJournalRelease := by
  intro f b s h
  simp only [answerJournalRelease]
  split
  · exact h
  · split
    · exact h
    · have hreleased : BooksFrom b (s.modJnl fun j => { j with entries := releasedList f.number s.jnl.entries }) :=
        h.jnl_change (.release f.number) rfl
      simp only [taken_state]
      split
      · exact hreleased.of_same (by simp) (by simp)
      · exact hreleased

theorem booksKept_clockSet : BooksKept answerClockSet := by
  intro f b s h
  unfold answerClockSet
  split
  · exact h
  · next hrange => exact h.clk_change (.set (Nat.le_of_not_lt hrange)) rfl

/-! ### The requests of the label composer, the printer link and LNK (R151 to R160, R172, R182, R201) -/

theorem BooksFrom.queueJobs (now : List Frame) (h : BooksFrom b s) :
    BooksFrom b (now.foldl (fun t x => t.queueJob x true) s) := by
  induction now generalizing s with
  | nil => exact h
  | cons x now ih => exact ih <| .queueJob h

theorem booksKept_labelRoll : BooksKept answerLabelRoll := by
  intro f b s h
  unfold answerLabelRoll
  split
  · exact h
  · split
    · exact h
    · split
      · exact h
      · exact .examineNew <| .queueJobs _ h

theorem booksKept_labelFrame : BooksKept answerLabelFrame := by
  intro f b s h
  unfold answerLabelFrame
  split
  · exact h
  · split
    · exact h
    · split
      · exact h
      · split
        · exact h
        · split
          · exact h
          · exact .examineNew <| .queueJob h

theorem booksKept_labelCancel : BooksKept answerLabelCancel := by
  intro f b s h
  have hcancelled : BooksFrom b (s.cancelJobs f.roll) := h
  unfold answerLabelCancel
  split
  · exact h
  · split
    · exact h
    · dsimp only
      split
      · exact .examine hcancelled
      · exact hcancelled

theorem booksKept_templateLoad : BooksKept answerTemplateLoad := by
  intro f b s h
  unfold answerTemplateLoad
  split
  · exact h
  · split
    · exact BooksFrom.examine (s := State.modLbl _ _) h
    · split
      · exact h
      · exact BooksFrom.examine (s := State.modLbl _ _) h

theorem booksKept_templateLock : BooksKept answerTemplateLock := by
  intro f b s h
  simp only [answerTemplateLock]
  split
  · exact h
  · split
    · exact h
    · split
      · exact h
      · simp only [taken_state]
        split
        · exact BooksFrom.examine (s := State.modLbl _ _) h
        · exact h

theorem booksKept_templateUnlock : BooksKept answerTemplateUnlock := by
  intro f b s h
  unfold answerTemplateUnlock
  (repeat' split) <;> exact h

theorem booksKept_templateDrop : BooksKept answerTemplateDrop := by
  intro f b s h
  unfold answerTemplateDrop
  split
  · exact h
  · split
    · exact h
    · split
      · exact BooksFrom.examine (s := State.modLbl _ _) h
      · exact h

theorem booksKept_printerSet : BooksKept answerPrinterSet := by
  intro f b s h
  unfold answerPrinterSet
  split
  · exact h
  · split
    · exact h
    · exact .setPrinter h

theorem booksKept_printerStatus : BooksKept answerPrinterStatus := by
  intro f b s h
  simp only [answerPrinterStatus, taken_state]
  split <;> exact h

theorem booksKept_status : BooksKept answerStatus := fun _ _ _ h => h

/-! ### Resets (R133, R144, R203) -/

/-- A warm or stand reset gives up every reserved slot; the label path then makes its sending attempt (R183). -/
theorem BooksFrom.keepReset {lnk : Lnk} {doors : PerStation Door} {ready : Bool} (h : BooksFrom b s) :
    BooksFrom b (s.keepReset lnk doors ready) := by
  have hkept : BooksFrom b (s.keptReset doors ready) := h.jnl_change .keepReset rfl
  exact BooksFrom.examine (s := State.modLnk _ _) hkept

theorem BooksFrom.coldReset {pins : ResetPins} (h : BooksFrom b s) : BooksFrom b (s.coldReset pins) :=
  ⟨h.1.tail .coldReset, h.2.tail (.set (n := 0) (Nat.zero_le _))⟩

theorem BooksFrom.resetBy {pins : ResetPins} (h : BooksFrom b s) : BooksFrom b (s.resetBy pins) := by
  unfold State.resetBy
  split
  · exact .keepReset h
  · exact .coldReset h

theorem booksKept_standReset : BooksKept answerStandReset := fun _ _ _ => .keepReset

/-! ### Requests as LNK takes them (R197) -/

theorem BooksFrom.takeRequest {kind tag : Byte} {answer : State → Answer}
    (ha : ∀ s, BooksFrom b s → BooksFrom b (answer s).state) (h : BooksFrom b s) :
    BooksFrom b (takeRequest kind tag answer s) := by
  simp only [Machine.takeRequest]
  split
  · exact h
  · split
    · exact h
    · exact ha s.frameTaken h

theorem BooksKept.takePayload {α : Type} {kind : RequestKind} {tag : Byte} {p : Payload α} {owner : α → State → Answer}
    (ho : BooksKept owner) (h : BooksFrom b s) : BooksFrom b (takePayload kind tag p owner s) :=
  .takeRequest (fun t ht => by
    cases p with
    | fields f => exact ho f ht
    | malformed => exact ht) h

theorem BooksFrom.takeCommand {c : Instr} (h : BooksFrom b s) : BooksFrom b (s.takeCommand c) := by
  cases c with
  | orderOpen => exact booksKept_orderOpen.takePayload h
  | itemAdd => exact booksKept_itemAdd.takePayload h
  | orderSubmit => exact booksKept_orderSubmit.takePayload h
  | hold => exact booksKept_hold.takePayload h
  | release => exact booksKept_release.takePayload h
  | orderPriority => exact booksKept_orderPriority.takePayload h
  | orderCancel => exact booksKept_orderCancel.takePayload h
  | stationSet => exact booksKept_stationSet.takePayload h
  | placed => exact booksKept_placed.takePayload h
  | inputTake => exact booksKept_inputTake.takePayload h
  | skipItem => exact booksKept_skipItem.takePayload h
  | abort => exact booksKept_abort.takePayload h
  | genClear => exact booksKept_genClear.takePayload h
  | stockSet => exact booksKept_stockSet.takePayload h
  | stockSetRemove => exact booksKept_stockSetRemove.takePayload h
  | load => exact booksKept_load.takePayload h
  | unloadEarly => exact booksKept_unloadEarly.takePayload h
  | cull => exact booksKept_cull.takePayload h
  | closeRoll => exact booksKept_closeRoll.takePayload h
  | confirmRoll => exact booksKept_confirmRoll.takePayload h
  | declareUnloaded => exact booksKept_declareUnloaded.takePayload h
  | tariffSet => exact booksKept_tariffSet.takePayload h
  | accountSet => exact booksKept_accountSet.takePayload h
  | accountClear => exact booksKept_accountClear.takePayload h
  | adjust => exact booksKept_adjust.takePayload h
  | journalRelease => exact booksKept_journalRelease.takePayload h
  | clockSet => exact booksKept_clockSet.takePayload h
  | labelRoll => exact booksKept_labelRoll.takePayload h
  | labelFrame => exact booksKept_labelFrame.takePayload h
  | labelCancel => exact booksKept_labelCancel.takePayload h
  | templateLoad => exact booksKept_templateLoad.takePayload h
  | templateLock => exact booksKept_templateLock.takePayload h
  | templateUnlock => exact booksKept_templateUnlock.takePayload h
  | templateDrop => exact booksKept_templateDrop.takePayload h
  | printerSet => exact booksKept_printerSet.takePayload h
  | printerStatus => exact booksKept_printerStatus.takePayload h
  | faultClear => exact booksKept_faultClear.takePayload h
  | standReset => exact booksKept_standReset.takePayload h
  | status => exact booksKept_status.takePayload h
  | orderRead => exact reads_orderRead.booksKept.takePayload h
  | itemRead => exact reads_itemRead.booksKept.takePayload h
  | stationRead => exact reads_stationRead.booksKept.takePayload h
  | planQueryDirect => exact reads_planQueryDirect.booksKept.takePayload h
  | planQueryStation => exact reads_planQueryStation.booksKept.takePayload h
  | planQueryItem => exact reads_planQueryItem.booksKept.takePayload h
  | genRead => exact reads_genRead.booksKept.takePayload h
  | stockRead => exact reads_stockRead.booksKept.takePayload h
  | frameRead => exact reads_frameRead.booksKept.takePayload h
  | tariffRead => exact reads_tariffRead.booksKept.takePayload h
  | accountRead => exact reads_accountRead.booksKept.takePayload h
  | journalRead => exact reads_journalRead.booksKept.takePayload h
  | clockRead => exact reads_clockRead.booksKept.takePayload h
  | labelRead => exact reads_labelRead.booksKept.takePayload h
  | templateRead => exact reads_templateRead.booksKept.takePayload h
  | faultRead => exact reads_faultRead.booksKept.takePayload h
  | ident => exact reads_ident.booksKept.takePayload h
  | unknownKind => exact .takeRequest (fun _ ht => ht) h
  | _ => exact h

theorem BooksFrom.hearHost (cs : List HostChar) (h : BooksFrom b s) : BooksFrom b (s.hearHost cs) := by
  induction cs generalizing s with
  | nil => exact h
  | cons c cs ih =>
    refine ih ?_
    unfold State.takeReceived
    split
    · split
      · exact h
      · exact BooksFrom.takeCommand (s := s.receive _) h
    · exact h
    · exact h

/-! ### The events at the stations' lines, at the generator's, and of the minute timer -/

theorem BooksFrom.pulse {st : Station} (h : BooksFrom b s) : BooksFrom b (s.pulse st) := by
  simp only [State.pulse]
  split
  · split
    · split
      · exact .moveOver h
      · exact h
    · exact h
  · exact h

theorem BooksFrom.advanceTimedOut {st : Station} (h : BooksFrom b s) : BooksFrom b (s.advanceTimedOut st) := by
  unfold State.advanceTimedOut
  split
  · exact .jam h
  · exact h

theorem BooksFrom.endSensed {st : Station} (h : BooksFrom b s) : BooksFrom b (s.endSensed st) := by
  unfold State.endSensed
  split
  · exact h
  · exact h
  · exact .filmEnd h

theorem BooksFrom.rewound {st : Station} (h : BooksFrom b s) : BooksFrom b (s.rewound st) := by
  simp only [State.rewound]
  split
  · split
    · exact .setMode h
    · exact h
  · exact h

theorem BooksFrom.rewindTimedOut {st : Station} (h : BooksFrom b s) : BooksFrom b (s.rewindTimedOut st) := by
  simp only [State.rewindTimedOut]
  split
  · exact .enterFault <| .capture h
  · exact h

theorem BooksFrom.footEdge {st : Station} {edge : Edge} (h : BooksFrom b s) : BooksFrom b (s.footEdge st edge) := by
  simp only [State.footEdge]
  split
  · split
    · exact .beginEntry h
    · exact h
  · exact h

theorem BooksFrom.readyRises (h : BooksFrom b s) : BooksFrom b s.readyRises := by
  simp only [State.readyRises, State.charged]
  (repeat' split) <;> exact h.of_same (by simp) (by simp)

theorem BooksFrom.readyFalls (h : BooksFrom b s) : BooksFrom b s.readyFalls := by
  simp only [State.readyFalls]
  split <;> exact h

theorem BooksFrom.afterFiring {act : Station → State → State} (ha : ∀ st, KeepsBooks b (act st)) (h : BooksFrom b s) :
    BooksFrom b (s.afterFiring act) := by
  unfold State.afterFiring
  split
  · exact .popReport (ha _) h
  · exact h.of_same (by simp) (by simp)

theorem BooksFrom.flashReported (h : BooksFrom b s) : BooksFrom b s.flashReported := by
  unfold State.flashReported
  split
  · exact .afterFiring (fun _ _ => .confirmPop) h
  · exact h

theorem BooksFrom.windowExpired (h : BooksFrom b s) : BooksFrom b s.windowExpired := by
  unfold State.windowExpired
  split
  · exact .afterFiring (fun _ _ => .misfire) h
  · exact h

theorem BooksFrom.chargeTimedOut (h : BooksFrom b s) : BooksFrom b s.chargeTimedOut := by
  unfold State.chargeTimedOut
  split
  · exact .enterGenFault <| .capture h
  · exact h

theorem BooksFrom.idleExpired (h : BooksFrom b s) : BooksFrom b s.idleExpired := by
  unfold State.idleExpired
  (repeat' split) <;> exact h

theorem BooksFrom.cooled (h : BooksFrom b s) : BooksFrom b s.cooled :=
  h.of_same (by simp [State.cooled]) (by simp [State.cooled])

theorem BooksFrom.minutePassed (h : BooksFrom b s) : BooksFrom b s.minutePassed := by
  unfold State.minutePassed
  split
  · next running => exact h.clk_change (.minute running) rfl
  · exact h

theorem BooksFrom.gapExpired (h : BooksFrom b s) : BooksFrom b s.gapExpired := by
  unfold State.gapExpired
  split <;> exact h

/-! ### Every command and every step -/

/-- Every command is an event whose changes of the journal and of the day clock are changes of theirs. -/
theorem exec_keepsBooks (b : State) (c : Instr) (s : State) : ∃ f, exec c s = event f s ∧ KeepsBooks b f := by
  cases c with
  | hostBadFrame chars => exact ⟨_, rfl, fun _ => .hearHost chars⟩
  | interByteGap => exact ⟨_, rfl, fun _ => .gapExpired⟩
  | frameSent => exact ⟨_, rfl, fun _ h => h⟩
  | reset => exact ⟨_, rfl, fun _ => .resetBy⟩
  | footSwitchEdge => exact ⟨_, rfl, fun _ => .footEdge⟩
  | doorOpened => exact ⟨_, rfl, fun _ => .doorOpen⟩
  | doorClosed => exact ⟨_, rfl, fun _ h => h⟩
  | sprocketPulse => exact ⟨_, rfl, fun _ => .pulse⟩
  | advanceTimeout => exact ⟨_, rfl, fun _ => .advanceTimedOut⟩
  | endOfFilmSensor => exact ⟨_, rfl, fun _ => .endSensed⟩
  | rewindDone => exact ⟨_, rfl, fun _ => .rewound⟩
  | rewindTimerExpiry => exact ⟨_, rfl, fun _ => .rewindTimedOut⟩
  | readyInputRise => exact ⟨_, rfl, fun _ => .readyRises⟩
  | readyInputFall => exact ⟨_, rfl, fun _ => .readyFalls⟩
  | flashSensorReport => exact ⟨_, rfl, fun _ => .flashReported⟩
  | flashConfirmWindowExpiry => exact ⟨_, rfl, fun _ => .windowExpired⟩
  | chargeTimerExpiry => exact ⟨_, rfl, fun _ => .chargeTimedOut⟩
  | idleDischarge => exact ⟨_, rfl, fun _ => .idleExpired⟩
  | cooling => exact ⟨_, rfl, fun _ => .cooled⟩
  | minuteTimerExpiry => exact ⟨_, rfl, fun _ => .minutePassed⟩
  | printerDone => exact ⟨_, rfl, fun _ => .hear⟩
  | printerFault => exact ⟨_, rfl, fun _ => .hear⟩
  | printerReady => exact ⟨_, rfl, fun _ => .hear⟩
  | badFrame => exact ⟨_, rfl, fun _ => .hear⟩
  | printerTimerExpiry => exact ⟨_, rfl, fun _ => .printerTimedOut⟩
  | statusWaitExpiry => exact ⟨_, rfl, fun _ => .statusWaited⟩
  | stationSlotRequest => exact ⟨_, rfl, fun _ => .askSlotAgain⟩
  | printerSlotRequest => exact ⟨_, rfl, fun _ => .attemptAgain⟩
  | unknownKind tag kind =>
    obtain ⟨c, -, he⟩ := execUnknownKind_eq tag kind s
    exact ⟨_, he, fun _ => .takeCommand⟩
  | _ => exact ⟨_, exec_request rfl (by simp) s, fun _ => .takeCommand⟩

theorem BooksFrom.exec {c : Instr} {t : State} (e : exec c s = .next t) : BooksFrom s t := by
  obtain ⟨f, hf, hk⟩ := exec_keepsBooks s c s
  rw [hf] at e
  cases e
  exact hk s.begun (BooksFrom.refl s)

/-- The empty queue changes nothing, and every command makes changes of the journal and of the day clock. -/
theorem BooksFrom.step {t : State} (e : step s = .next t) : BooksFrom s t := by
  unfold Machine.step at e
  split at e
  · cases e
    exact .refl s
  · next c rest _ => exact BooksFrom.exec (s := { s with pending := rest }) e

end

/-! ### The statements -/

/-- Settles O50: every step takes the journal through changes of it, and each change keeps both laws. -/
theorem journalStaysOrdered : Obligations.JournalStaysOrdered :=
  ⟨fun _ _ h e => (BooksFrom.step e).journalOrdered h, fun _ _ h e => (BooksFrom.step e).journalBounded h⟩

/-- With the clock at 0 the minute timer is stopped, and its expiry does nothing (log entry 21). -/
theorem minutePassed_stopped {s : State} (h : ClockLawful s) (h0 : s.clk.minutes = 0) : s.minutePassed = s := by
  obtain ⟨-, htimer⟩ := h
  simp only [State.minutePassed, htimer.mpr h0, Option.isSome_none, Bool.false_eq_true, if_false]

/-- With the clock running a minute counts one up to the highest value (R145). -/
theorem minutePassed_running {s : State} (h : ClockLawful s) (h0 : s.clk.minutes ≠ 0) : s.minutePassed =
    { s with clk := { minutes := min 52595999 (s.clk.minutes + 1), timer := some 60000 } } := by
  obtain ⟨hrange, htimer⟩ := h
  have hruns : s.clk.timer.isSome = true := Option.isSome_iff_ne_none.mpr fun hn => h0 (htimer.mp hn)
  have hcount : (if s.clk.minutes = 0 ∨ Config.maxMinutes ≤ s.clk.minutes then s.clk.minutes else s.clk.minutes + 1) =
      min 52595999 (s.clk.minutes + 1) := by
    by_cases hmax : Config.maxMinutes ≤ s.clk.minutes
    · rw [if_pos (.inr hmax)]
      have hhighest : s.clk.minutes = 52595999 := Nat.le_antisymm hrange hmax
      omega
    · rw [if_neg (by simp [h0, hmax])]
      simp only [Config.maxMinutes] at hmax
      omega
  simp only [State.minutePassed, hruns, if_true, State.modClk, hcount]
  rfl

theorem minuteTimerExpiry_does {s u : State} (h : s.begun.minutePassed = u) : Does .minuteTimerExpiry s u :=
  h ▸ rfl

/-- Settles O49: the two commands by their cases, and the law by the changes that a step makes of the clock. -/
theorem dayClockCountsMinutes : Obligations.DayClockCountsMinutes := by
  refine ⟨?_, fun s h => minuteTimerExpiry_does ?_, fun _ _ h e => (BooksFrom.step e).clockLawful h⟩
  · intro tag f s ha c
    split
    · next hhigh => exact request_answers ha (if_pos hhigh)
    · next hrange => exact request_answers ha (if_neg hrange)
  · split
    · next h0 => exact minutePassed_stopped (s := s.begun) h h0
    · next h0 => exact minutePassed_running (s := s.begun) h h0

end Sys2Proof.Machine
end

section
/-! SUPPORT. The lines of a composed label (R164). -/

namespace Sys2Proof.Machine

/-! ### The lines of a label (R164) -/

theorem cutLine_of_length_le {t : Text} (h : t.length ≤ 24) : cutLine t = t := if_pos h

theorem cutLine_of_lt_length {t : Text} (h : 24 < t.length) : cutLine t = t.take 23 ++ [0x7E] :=
  if_neg (Nat.not_le.mpr h)

theorem length_cutLine_le (t : Text) : (cutLine t).length ≤ 24 := by
  by_cases h : t.length ≤ 24
  · rwa [cutLine_of_length_le h]
  · rw [cutLine_of_lt_length (Nat.not_le.mp h), List.length_append, List.length_take, List.length_singleton]
    omega

theorem length_composeLabel {lines : List (List Piece)} (s : State) (x : Frame) (h : lines.length ≤ 4) :
    (s.composeLabel x lines).length = 4 := by
  simp only [State.composeLabel, List.length_append, List.length_map, List.length_replicate]
  omega

/-- Each line of a label is a cut one of its template or an empty one that fills it up. -/
theorem length_le_of_mem_composeLabel {s : State} {x : Frame} {lines : List (List Piece)} {l : Text}
    (h : l ∈ s.composeLabel x lines) : l.length ≤ 24 := by
  rcases List.mem_append.mp h with hmade | hfill
  · obtain ⟨pieces, -, rfl⟩ := List.mem_map.mp hmade
    exact length_cutLine_le _
  · simp [List.eq_of_mem_replicate hfill]

/-- Settles O52: the label has its four lines, and each of them is cut. -/
theorem composedLinesFit : Obligations.ComposedLinesFit :=
  ⟨fun s x _ h => ⟨length_composeLabel s x h, fun _ hl => length_le_of_mem_composeLabel hl⟩,
    fun _ => ⟨cutLine_of_length_le, cutLine_of_lt_length⟩⟩

end Sys2Proof.Machine
end

section
/-! SUPPORT. The waiting head of the label queue: where it stands, what changes it, its examination (R149, R162), and the
requests LABEL_ROLL, LABEL_FRAME and LABEL_CANCEL (R150 to R153). -/

namespace Sys2Proof.Machine

section

variable {s : State} {before after : List LabelJob} {j : LabelJob}

/-! ### Where the waiting head stands (R149) -/

/-- The waiting head of the queue, with the jobs at the printer before it and the jobs behind it. -/
structure Lbl.HeadAt (l : Lbl) (before : List LabelJob) (j : LabelJob) (after : List LabelJob) : Prop where
  jobs : l.jobs = before ++ j :: after
  sent : ∀ k ∈ before, k.isSent = true
  waiting : j.isSent = false

theorem Lbl.HeadAt.head? {l : Lbl} (h : l.HeadAt before j after) : l.head? = some j :=
  List.find?_eq_some_iff_append.mpr ⟨by simp [h.waiting], before, after, h.jobs, fun k hk => by simp [h.sent k hk]⟩

theorem Lbl.head?_of_all_sent {l : Lbl} (h : ∀ j ∈ l.jobs, j.isSent = true) : l.head? = none :=
  List.find?_eq_none.mpr fun j hj => by simp [h j hj]

/-- A job can be taken: it has lines, or its template's content stands in the store (R162). -/
theorem Lbl.ready_iff {l : Lbl} {j : LabelJob} : l.ready j = true ↔ j.lines ≠ none ∨ l.content? j.template ≠ none := by
  simp [Lbl.ready, Option.isSome_iff_ne_none]

theorem updateFirst_append_cons {α : Type} {p : α → Bool} (f : α → α) {before after : List α} {a : α}
    (hb : ∀ k ∈ before, p k = false) (ha : p a = true) :
    updateFirst p f (before ++ a :: after) = before ++ f a :: after := by
  induction before with
  | nil => exact if_pos ha
  | cons k before ih =>
    obtain ⟨hk, hrest⟩ := List.forall_mem_cons.mp hb
    rw [List.cons_append, updateFirst, hk, ih hrest]
    rfl

/-- The state with another job for its waiting head. -/
def State.withHead (before : List LabelJob) (j : LabelJob) (after : List LabelJob) (s : State) : State :=
  { s with lbl := { s.lbl with jobs := before ++ j :: after } }

theorem State.modHead_eq (f : LabelJob → LabelJob) (h : s.lbl.HeadAt before j after) :
    s.modHead f = s.withHead before (f j) after := by
  simp only [State.modHead, State.modLbl, State.withHead, h.jobs]
  rw [updateFirst_append_cons f (fun k hk => by simp [h.sent k hk]) (by simp [h.waiting])]

theorem Lbl.HeadAt.withHead {k : LabelJob} (h : s.lbl.HeadAt before j after) (hk : k.isSent = false) :
    (s.withHead before k after).lbl.HeadAt before k after := ⟨rfl, h.sent, hk⟩

/-! ### The examination of the waiting head (R162) -/

theorem examineHead_of_all_sent (h : ∀ j ∈ s.lbl.jobs, j.isSent = true) : s.examineHead = s := by
  simp only [State.examineHead, Lbl.head?_of_all_sent h]

theorem examine_of_all_sent (h : ∀ j ∈ s.lbl.jobs, j.isSent = true) : s.examine = s := by
  simp only [State.examine, examineHead_of_all_sent h, Lbl.head?_of_all_sent h]

/-- A head that can be taken is QUEUED. -/
theorem examineHead_of_ready (h : s.lbl.HeadAt before j after) (hr : s.lbl.ready j = true) :
    s.examineHead = s.withHead before { j with state := .queued } after := by
  simp only [State.examineHead, h.head?, hr, if_true, State.modHead_eq _ h]

/-- A head that cannot be taken waits for its template, which is asked for once. -/
theorem examineHead_of_not_ready (h : s.lbl.HeadAt before j after) (hr : ¬ s.lbl.ready j = true) :
    s.examineHead = if j.state = .templateWait then s
      else (s.withHead before { j with state := .templateWait } after).raise
        (.templateNeeded j.template j.roll j.frame) := by
  simp only [State.examineHead, h.head?, hr, Bool.false_eq_true, if_false, State.modHead_eq _ h]

/-- The head is taken up at once where the link may send it (R173). -/
theorem examine_of_ready (h : s.lbl.HeadAt before j after) (hr : s.lbl.ready j = true) :
    s.examine = (s.withHead before { j with state := .queued } after).attempt := by
  have hhead := (h.withHead (k := { j with state := .queued }) rfl).head?
  have hready : (s.withHead before { j with state := .queued } after).lbl.ready { j with state := .queued } = true := hr
  simp only [State.examine, examineHead_of_ready h hr, hhead, hready, if_true]

/-- A head that cannot be taken leads to no sending attempt. -/
theorem examine_of_not_ready (h : s.lbl.HeadAt before j after) (hr : ¬ s.lbl.ready j = true) :
    s.examine = s.examineHead := by
  by_cases hw : j.state = .templateWait
  · have hsame : s.examineHead = s := (examineHead_of_not_ready h hr).trans (if_pos hw)
    simp only [State.examine, hsame, h.head?, hr, Bool.false_eq_true, if_false]
  · have hwaits := (examineHead_of_not_ready h hr).trans (if_neg hw)
    have hhead := (h.withHead (k := { j with state := .templateWait }) rfl).head?
    have hready : ¬ (s.withHead before { j with state := .templateWait } after).lbl.ready
        { j with state := .templateWait } = true := hr
    simp only [State.examine, hwaits, State.raise, State.modLnk_lbl, hhead, hready, Bool.false_eq_true, if_false]

/-! ### Jobs queued and jobs cancelled (R150) -/

/-- A job joins the end of the queue, with the template of the order that its frame names; its frame's label becomes QUEUED
where it was NONE. -/
theorem queueJob_of_order {x : Frame} {o : Order} (charge : Bool) (h : s.orderOf x = some o) :
    s.queueJob x charge = { s with
      lbl := { s.lbl with jobs := s.lbl.jobs ++
        [{ roll := x.roll, frame := x.number, template := o.template, charge := charge, state := .queued, lines := none }] }
      rol := { s.rol with frames := s.rol.frames.map fun y =>
        if y.roll = x.roll ∧ y.number = x.number ∧ y.label = .none then { y with label := .queued } else y } } := by
  have hframes : updateWhere (fun y => y.roll == x.roll && y.number == x.number)
      (fun y => { y with label := if y.label = .none then .queued else y.label }) s.rol.frames =
      s.rol.frames.map fun y =>
        if y.roll = x.roll ∧ y.number = x.number ∧ y.label = .none then { y with label := .queued } else y := by
    refine List.map_congr_left fun y _ => ?_
    by_cases hlabel : y.label = .none
    · simp [hlabel]
    · simp [hlabel]
  simp only [State.queueJob, h, Option.isSome_some, if_true, State.modFrame, State.modRol, State.modLbl, hframes]

theorem Lbl.not_hasJobFor_iff {l : Lbl} {n k : Nat} :
    ¬ l.hasJobFor n k = true ↔ ∀ j ∈ l.jobs, j.roll ≠ n ∨ j.frame ≠ k := by
  simp [Lbl.hasJobFor, Decidable.imp_iff_not_or]

/-- The unsent jobs of the roll leave the queue; a frame of the roll that is QUEUED and has no job left goes back to NONE. -/
theorem cancelJobs_eq (n : Nat) (s : State) :
    let left := s.lbl.jobs.filter fun j => !j.cancels n
    s.cancelJobs n = { s with
      lbl := { s.lbl with jobs := left }
      rol := { s.rol with frames := s.rol.frames.map fun x =>
        if x.roll = n ∧ x.label = .queued ∧ (∀ j ∈ left, j.roll ≠ x.roll ∨ j.frame ≠ x.number) then
          { x with label := .none } else x } } := by
  simp only [State.cancelJobs, State.modRol, State.modLbl, Lbl.not_hasJobFor_iff]

/-- The head is examined where there was none (R151, R152). -/
theorem examineNew_isSome (x : Option LabelJob) (t : State) :
    t.examineNew x.isSome = if x = none then t.examine else t := by
  cases x <;> rfl

/-! ### LABEL_ROLL, LABEL_FRAME and LABEL_CANCEL (R151 to R153) -/

theorem labelEligible_eq (n : Nat) (s : State) : s.labelEligible n =
    s.rol.frames.filter fun x => x.roll == n && (x.verdict == .keep && x.label == .none) := by
  simp only [State.labelEligible, State.framesOf, List.filter_filter]
  exact List.filter_congr fun x _ => Bool.and_comm ..

theorem within_one_iff {hi n : Nat} : within 1 hi n ↔ ¬ (n < 1 ∨ hi < n) := by
  omega

/-- The frames to be labelled are taken in their order as far as the queue has room. -/
theorem answerLabelRoll_out {f : RollReq} {r : Roll} (hf : within 1 9999 f.roll) (hr : s.roll? f.roll = some r)
    (hout : r.state = .out) :
    let kept := s.rol.frames.filter fun x => x.roll == f.roll && (x.verdict == .keep && x.label == .none)
    let room := 96 - s.lbl.jobs.length
    let t := (kept.take room).foldl (fun t x => t.queueJob x true) s
    answerLabelRoll f s = taken (if s.lbl.head? = none then t.examine else t)
      (.labelsQueued (min room kept.length) (kept.length - room)) := by
  intro kept room t
  have hleft : kept.length - min room kept.length = kept.length - room := by omega
  rw [answerLabelRoll, if_neg (not_not.mpr hf), hr]
  simp only [hout, not_true, ne_eq, if_false, labelEligible_eq, Config.maxJobs, List.length_take, examineNew_isSome]
  rw [← hleft]

theorem answerLabelFrame_present {g : LabelFrameReq} {r : Roll} {x : Frame}
    (hg : within 1 9999 g.roll ∧ within 1 250 g.frame) (hr : s.roll? g.roll = some r)
    (hx : s.frame? g.roll g.frame = some x) :
    answerLabelFrame g s =
      if x.verdict ≠ .keep then refuse s .state
      else if 96 ≤ s.lbl.jobs.length then refuse s .full
      else
        let t := s.queueJob x g.charge
        taken (if s.lbl.head? = none then t.examine else t) (.labelPosition (s.lbl.jobs.length + 1)) := by
  rw [answerLabelFrame, if_neg (not_not.mpr hg), hr, hx]
  simp only [Option.isNone_some, Bool.false_eq_true, if_false, Config.maxJobs, examineNew_isSome]

theorem answerLabelFrame_absent {g : LabelFrameReq} (hg : within 1 9999 g.roll ∧ within 1 250 g.frame)
    (h : s.roll? g.roll = none ∨ s.frame? g.roll g.frame = none) : answerLabelFrame g s = refuse s .notFound := by
  rw [answerLabelFrame, if_neg (not_not.mpr hg)]
  rcases h with hr | hx
  · rw [hr]
    rfl
  · rw [hx, ite_self]

theorem answerLabelCancel_present {f : RollReq} {r : Roll} (hf : within 1 9999 f.roll) (hr : s.roll? f.roll = some r) :
    answerLabelCancel f s =
      taken (if s.lbl.head?.any (LabelJob.cancels f.roll) then (s.cancelJobs f.roll).examine else s.cancelJobs f.roll)
        (.labelsCancelled (s.lbl.jobs.filter (LabelJob.cancels f.roll)).length
          (s.lbl.jobs.filter fun j => j.roll == f.roll && j.isSent).length) := by
  simp [answerLabelCancel, hf, hr]

end

/-- Settles O51: the three requests condition by condition, then the queue and the waiting head by their laws. -/
theorem labelRequestsChangeTheQueue : Obligations.LabelRequestsChangeTheQueue := by
  refine ⟨fun tag f g s ha => ⟨?_, ?_⟩, fun x charge o s ho => queueJob_of_order charge ho,
    fun s h => ⟨examineHead_of_all_sent h, examine_of_all_sent h⟩, fun s before j after hjobs hsent hwaiting => ?_⟩
  · split
    · next hbad =>
      have hrange : ¬ within 1 9999 f.roll := fun h => within_one_iff.mp h hbad
      exact ⟨request_answers ha (if_pos hrange), request_answers ha (if_pos hrange)⟩
    · next hgood =>
      have hrange : within 1 9999 f.roll := within_one_iff.mpr hgood
      split
      · next hr =>
        exact ⟨request_answers ha (by simp [answerLabelRoll, hrange, hr, refuse]),
          request_answers ha (by simp [answerLabelCancel, hrange, hr, refuse])⟩
      · next r hr =>
        refine ⟨?_, ?_⟩
        · split
          · next hnot => exact request_answers ha (by simp [answerLabelRoll, hrange, hr, hnot, refuse])
          · next hout => exact request_answers ha (answerLabelRoll_out (s := s.asked) hrange hr (not_not.mp hout))
        · have hcancel := answerLabelCancel_present (s := s.asked) hrange hr
          rw [cancelJobs_eq] at hcancel
          exact request_answers ha hcancel
  · split
    · next hbad => exact request_answers ha (if_pos (by omega))
    · next hgood =>
      have hrange : within 1 9999 g.roll ∧ within 1 250 g.frame := by omega
      split
      · next x hr hx =>
        have hframe := answerLabelFrame_present (s := s.asked) hrange hr hx
        split
        · next hkeep => exact request_answers ha (hframe.trans (if_pos hkeep))
        · next hkeep =>
          split
          · next hfull => exact request_answers ha (hframe.trans ((if_neg hkeep).trans (if_pos hfull)))
          · next hroom => exact request_answers ha (hframe.trans ((if_neg hkeep).trans (if_neg hroom)))
      · next habsent =>
        refine request_answers ha (answerLabelFrame_absent (s := s.asked) hrange ?_)
        by_contra hboth
        obtain ⟨hroll, hframe⟩ := not_or.mp hboth
        obtain ⟨r, hr⟩ := Option.ne_none_iff_exists'.mp hroll
        obtain ⟨x, hx⟩ := Option.ne_none_iff_exists'.mp hframe
        exact habsent r x hr hx
  · have h : s.lbl.HeadAt before j after := ⟨hjobs, hsent, hwaiting⟩
    intro head
    split
    · next hc => exact ⟨examineHead_of_ready h (Lbl.ready_iff.mpr hc), examine_of_ready h (Lbl.ready_iff.mpr hc)⟩
    · next hc =>
      have hr := mt Lbl.ready_iff.mp hc
      exact ⟨examineHead_of_not_ready h hr, (examine_of_not_ready h hr).trans (examineHead_of_not_ready h hr)⟩

end Sys2Proof.Machine
end

section
/-! SUPPORT. The template store: the slot found for an id, and the requests TEMPLATE_LOAD, TEMPLATE_LOCK, TEMPLATE_UNLOCK and
TEMPLATE_DROP (R156 to R160). -/

namespace Sys2Proof.Machine

/-! ### The slot found for an id that is not resident (R156, R157) -/

/-- The last member of a list that passes a test has none behind it that passes. -/
theorem getLast?_filter_eq_some {α : Type} {p : α → Bool} {l : List α} {a : α} (h : (l.filter p).getLast? = some a) :
    ∃ before after, l = before ++ a :: after ∧ p a = true ∧ ∀ b ∈ after, p b = false := by
  rw [List.getLast?_eq_head?_reverse, ← List.filter_reverse, List.head?_filter] at h
  obtain ⟨ha, before, after, hl, hbefore⟩ := List.find?_eq_some_iff_append.mp h
  refine ⟨after.reverse, before.reverse, ?_, ha, fun b hb => ?_⟩
  · rw [← List.reverse_reverse l, hl]
    simp
  · simpa using hbefore b (List.mem_reverse.mp hb)

/-- An empty slot is found before any other: the lowest-numbered. -/
theorem findSlot?_of_empty {l : Lbl} {k : Nat} (h : (l.slots.findIdx? fun x => x.tag == none) = some k) :
    l.findSlot? = some k := by
  rw [Lbl.findSlot?, h]

/-- With no empty slot, the one found is the unlocked one that the LRU order names last. -/
theorem findSlot?_of_no_empty {l : Lbl} (h : (l.slots.findIdx? fun x => x.tag == none) = none) :
    l.findSlot? = ((l.lru.filter fun n => l.unlockedAt (n - 1)).getLast?).map fun n => n - 1 := by
  rw [Lbl.findSlot?, h]

theorem findSlot?_cases {l : Lbl} {i : Nat} (h : l.findSlot? = some i) :
    (∀ x ∈ l.slots, x.tag ≠ none) ∧ (∃ n before after, l.lru = before ++ n :: after ∧ i = n - 1 ∧
      l.unlockedAt i = true ∧ ∀ k ∈ after, l.unlockedAt (k - 1) = false) ∨
    (∃ x, l.slots[i]? = some x ∧ x.tag = none) ∧ ∀ k < i, ∀ x, l.slots[k]? = some x → x.tag ≠ none := by
  cases hempty : l.slots.findIdx? fun x => x.tag == none with
  | none =>
    rw [findSlot?_of_no_empty hempty] at h
    obtain ⟨n, hlast, rfl⟩ := Option.map_eq_some_iff.mp h
    obtain ⟨before, after, hlru, hunlocked, hafter⟩ := getLast?_filter_eq_some hlast
    exact .inl ⟨fun x hx => by simpa [Option.isSome_iff_ne_none] using List.findIdx?_eq_none_iff.mp hempty x hx,
      n, before, after, hlru, rfl, hunlocked, hafter⟩
  | some k =>
    obtain rfl : k = i := Option.some.inj ((findSlot?_of_empty hempty).symm.trans h)
    obtain ⟨hk, htag, hlower⟩ := List.findIdx?_eq_some_iff_getElem.mp hempty
    refine .inr ⟨⟨l.slots[k], List.getElem?_eq_getElem hk, by simpa using htag⟩, fun m hm x hx => ?_⟩
    obtain ⟨hlt, rfl⟩ := List.getElem?_eq_some_iff.mp hx
    simpa using hlower m hm

/-! ### The requests (R157 to R160) -/

section

variable {s : State} {i : Nat}

/-! TEMPLATE_LOAD, in range: the id resident; a slot found for it; none. -/

theorem answerTemplateLoad_resident {f : TemplateLoadReq} (hf : templateInRange f)
    (h : s.lbl.slotOf? f.template = some i) : answerTemplateLoad f s =
      taken (s.modLbl fun l => Lbl.touch i { l with slots := l.slots.modify i fun x =>
        { x with content := some f.lines } }).examine (.templateSlot (i + 1) none) := by
  rw [answerTemplateLoad, if_neg (not_not.mpr hf), h]

theorem answerTemplateLoad_found {f : TemplateLoadReq} (hf : templateInRange f)
    (h : s.lbl.slotOf? f.template = none) (hi : s.lbl.findSlot? = some i) : answerTemplateLoad f s =
      taken (s.modLbl fun l => (l.setSlot i { tag := some f.template, locked := false, content := some f.lines }).touch i).examine
        (.templateSlot (i + 1) (s.lbl.tagAt i)) := by
  rw [answerTemplateLoad, if_neg (not_not.mpr hf), h, hi]

theorem answerTemplateLoad_full {f : TemplateLoadReq} (hf : templateInRange f)
    (h : s.lbl.slotOf? f.template = none) (hi : s.lbl.findSlot? = none) :
    answerTemplateLoad f s = refuse s .storeFull := by
  rw [answerTemplateLoad, if_neg (not_not.mpr hf), h, hi]

variable {f : TemplateReq}

/-! TEMPLATE_LOCK, in the same three cases. -/

theorem answerTemplateLock_resident (hf : within 1 255 f.template) (h : s.lbl.slotOf? f.template = some i) :
    answerTemplateLock f s =
      taken (s.modLbl fun l => Lbl.touch i { l with slots := l.slots.modify i fun x => { x with locked := true } })
        (.templateSlot (i + 1) none) := by
  rw [answerTemplateLock, if_neg (not_not.mpr hf), h]

theorem answerTemplateLock_found (hf : within 1 255 f.template) (h : s.lbl.slotOf? f.template = none)
    (hi : s.lbl.findSlot? = some i) : answerTemplateLock f s =
      let t := s.modLbl fun l => (l.setSlot i { tag := some f.template, locked := true, content := none }).touch i
      taken (if s.lbl.tagAt i = none then t else t.examine) (.templateSlot (i + 1) (s.lbl.tagAt i)) := by
  rw [answerTemplateLock, if_neg (not_not.mpr hf), h, hi]
  dsimp only
  cases s.lbl.tagAt i <;> rfl

theorem answerTemplateLock_full (hf : within 1 255 f.template) (h : s.lbl.slotOf? f.template = none)
    (hi : s.lbl.findSlot? = none) : answerTemplateLock f s = refuse s .storeFull := by
  rw [answerTemplateLock, if_neg (not_not.mpr hf), h, hi]

/-! TEMPLATE_UNLOCK and TEMPLATE_DROP: the id resident, or not. -/

/-- The slot kept for an id with no content is emptied as it is unlocked. -/
theorem answerTemplateUnlock_resident (hf : within 1 255 f.template) (h : s.lbl.slotOf? f.template = some i) :
    answerTemplateUnlock f s =
      if s.lbl.content? f.template = none then taken (s.modLbl (Lbl.emptyAt i))
      else taken (s.modLbl fun l => { l with slots := l.slots.modify i fun x => { x with locked := false } }) := by
  rw [answerTemplateUnlock, if_neg (not_not.mpr hf), h]
  cases s.lbl.content? f.template <;> rfl

theorem answerTemplateUnlock_absent (hf : within 1 255 f.template) (h : s.lbl.slotOf? f.template = none) :
    answerTemplateUnlock f s = refuse s .notResident := by
  rw [answerTemplateUnlock, if_neg (not_not.mpr hf), h]

theorem answerTemplateDrop_resident (hf : within 1 255 f.template) (h : s.lbl.slotOf? f.template = some i) :
    answerTemplateDrop f s =
      if s.lbl.unlockedAt i then taken (s.modLbl (Lbl.emptyAt i)).examine else refuse s .busy := by
  rw [answerTemplateDrop, if_neg (not_not.mpr hf), h]

theorem answerTemplateDrop_absent (hf : within 1 255 f.template) (h : s.lbl.slotOf? f.template = none) :
    answerTemplateDrop f s = refuse s .notResident := by
  rw [answerTemplateDrop, if_neg (not_not.mpr hf), h]

end

/-- Settles O53: the requests by whether their id is resident and which slot is found for it. -/
theorem templateRequestsFollowTheStore : Obligations.TemplateRequestsFollowTheStore := by
  refine ⟨fun tag f s ha => ?_, fun tag f s ha => ?_, fun l i => findSlot?_cases⟩
  · split
    · next hbad => exact request_answers ha (if_pos hbad)
    · next hgood =>
      have hf : templateInRange f := not_not.mp hgood
      split
      · next i _ hi => exact request_answers ha (answerTemplateLoad_resident (s := s.asked) hf hi)
      · next i hnone hi => exact request_answers ha (answerTemplateLoad_found (s := s.asked) hf hnone hi)
      · next hnone hfull => exact request_answers ha (answerTemplateLoad_full (s := s.asked) hf hnone hfull)
  · split
    · next hbad =>
      have hf : ¬ within 1 255 f.template := by omega
      exact ⟨request_answers ha (if_pos hf), request_answers ha (if_pos hf), request_answers ha (if_pos hf)⟩
    · next hgood =>
      have hf : within 1 255 f.template := by omega
      split
      · next i hi =>
        refine ⟨request_answers ha (answerTemplateLock_resident (s := s.asked) hf hi), ?_, ?_⟩
        · have hunlock := answerTemplateUnlock_resident (s := s.asked) hf hi
          split
          · next hc => exact request_answers ha (hunlock.trans (if_pos hc))
          · next hc => exact request_answers ha (hunlock.trans (if_neg hc))
        · have hdrop := answerTemplateDrop_resident (s := s.asked) hf hi
          split
          · next hu => exact request_answers ha (hdrop.trans (if_pos hu))
          · next hu => exact request_answers ha (hdrop.trans (if_neg hu))
      · next hnone =>
        refine ⟨request_answers ha (answerTemplateUnlock_absent (s := s.asked) hf hnone),
          request_answers ha (answerTemplateDrop_absent (s := s.asked) hf hnone), ?_⟩
        split
        · next hfull => exact request_answers ha (answerTemplateLock_full (s := s.asked) hf hnone hfull)
        · next i hi => exact request_answers ha (answerTemplateLock_found (s := s.asked) hf hnone hi)

end Sys2Proof.Machine
end

section
/-! SUPPORT. The sending attempt, a job sent, the parity of the characters, and the requests PRINTER_SET and PRINTER_STATUS
(R163, R164, R169, R172 to R174, R182). -/

namespace Sys2Proof.Machine

section

variable {s : State} {before after : List LabelJob} {j : LabelJob}

/-! ### The head that may be sent (R173) -/

/-- The link can send: IDLE or SENDING with room in its window (R173). -/
abbrev Prn.canSend (p : Prn) : Prop := (p.state = .idle ∨ p.state = .sending) ∧ p.inFlight.length < p.window

theorem sendable_of_cannot_send (h : ¬ s.prn.canSend) : s.sendable = none := if_neg h

theorem sendable_of_all_sent (h : ∀ j ∈ s.lbl.jobs, j.isSent = true) : s.sendable = none := by
  simp only [State.sendable, Lbl.head?_of_all_sent h, ite_self]

theorem sendable_of_head (hp : s.prn.canSend) (h : s.lbl.HeadAt before j after) :
    s.sendable = if j.state = .queued ∧ s.lbl.ready j = true then some j else none := by
  rw [State.sendable, if_pos hp, h.head?]

theorem sendable_of_head_not_ready (h : s.lbl.HeadAt before j after)
    (hn : ¬ (j.state = .queued ∧ s.lbl.ready j = true)) : s.sendable = none := by
  by_cases hp : s.prn.canSend
  · rw [sendable_of_head hp h, if_neg hn]
  · exact sendable_of_cannot_send hp

/-! ### A job sent (R163, R174) -/

theorem touchFor_eq (j : LabelJob) (l : Lbl) : l.touchFor j = { l with lru := (l.touchFor j).lru } := by
  unfold Lbl.touchFor
  split
  · rfl
  · split <;> rfl

/-- The slot whose content a first taking uses goes to the front of the LRU order (R156, R163). -/
theorem touchFor_lru (j : LabelJob) (l : Lbl) : (l.touchFor j).lru =
    match j.lines, l.slotOf? j.template with
    | none, some i => (i + 1) :: l.lru.filter fun k => k != i + 1
    | _, _ => l.lru := by
  unfold Lbl.touchFor
  cases j.lines with
  | some lines => rfl
  | none => cases l.slotOf? j.template <;> rfl

@[simp] theorem State.examineHead_prn (s : State) : s.examineHead.prn = s.prn := by
  unfold State.examineHead
  (repeat' split) <;> rfl

@[simp] theorem State.takeHead_prn (j : LabelJob) (seq : Nat) (s : State) : (s.takeHead j seq).prn = s.prn :=
  State.examineHead_prn _

/-- The head taken is SENT with its lines, and the next one is examined. -/
theorem takeHead_eq (n : Nat) (h : s.lbl.HeadAt before j after) : s.takeHead j n = State.examineHead { s with
    lbl := { s.lbl with
      jobs := before ++ { j with state := .sent n, lines := some (s.linesOf j) } :: after
      lru := (s.lbl.touchFor j).lru } } := by
  have htouched : (s.modLbl (Lbl.touchFor j)).lbl.HeadAt before j after :=
    ⟨(touchFor_jobs j s.lbl).trans h.jobs, h.sent, h.waiting⟩
  rw [State.takeHead, State.modHead_eq _ htouched, State.withHead, State.modLbl, touchFor_eq]

/-- The state once the slot of a charged job is reserved (R174). -/
theorem reserved_eq (charge : Bool) (s : State) : (if charge then s.reserveSlot else s) =
    { s with jnl := { s.jnl with reserved := if charge then s.jnl.reserved + 1 else s.jnl.reserved } } := by
  cases charge <;> rfl

theorem sendJob_eq (h : s.lbl.HeadAt before j after) :
    let n := s.prn.nextSeq
    let lines := s.linesOf j
    let lbl := { s.lbl with
      jobs := before ++ { j with state := .sent n, lines := some lines } :: after
      lru := (s.lbl.touchFor j).lru }
    let jnl := { s.jnl with reserved := if j.charge then s.jnl.reserved + 1 else s.jnl.reserved }
    let u := State.examineHead { s with lbl := lbl, jnl := jnl }
    let sent : InFlight := { roll := j.roll, frame := j.frame, seq := n, slotHeld := j.charge }
    s.sendJob j = { u with
      prn := { u.prn with state := .sending, nextSeq := (n + 1) % 16, inFlight := s.prn.inFlight ++ [sent]
                          paused := false, roomReport := false
                          printerTimer := if s.prn.inFlight = [] then some 10000 else s.prn.printerTimer }
      outputs := u.outputs ++ [.printerFrame (onLine (printFrame n lines))] } := by
  intro n lines lbl jnl u sent
  have hu : (if j.charge then s.reserveSlot else s).takeHead j n = u := by
    rw [reserved_eq]
    exact takeHead_eq (s := { s with jnl := jnl }) n h
  have hprn : u.prn = s.prn := State.examineHead_prn _
  rw [State.sendJob, hu]
  simp only [State.modPrn, State.setLink, State.emit, hprn]
  rfl

@[simp] theorem State.reserved_prn (charge : Bool) (s : State) :
    (if charge then s.reserveSlot else s).prn = s.prn := by
  cases charge <;> rfl

theorem sendJob_window (j : LabelJob) (s : State) : (s.sendJob j).prn.window = s.prn.window := by
  simp [State.sendJob, State.setLink]

theorem sendJob_inFlight_length (j : LabelJob) (s : State) :
    (s.sendJob j).prn.inFlight.length = s.prn.inFlight.length + 1 := by
  simp [State.sendJob, State.setLink]

/-! ### The sending attempt (R173) -/

theorem attempt_of_not_sendable (h : s.sendable = none) : s.attempt = s := by
  rw [State.attempt, sendJobs, h]

theorem sendJobs_succ_of_sendable (fuel : Nat) (h : s.sendable = some j) : sendJobs (fuel + 1) s =
    if j.charge = true ∧ ¬ s.jnl.hasRoom then s.modPrn fun p => { p with paused := true }
    else sendJobs fuel (s.sendJob j) := by
  rw [sendJobs, h]

/-- Each job sent takes one place of the window, so the places left bound the jobs of an attempt: fuel past them changes
nothing. -/
theorem sendJobs_succ {fuel : Nat} (h : s.prn.window ≤ fuel + s.prn.inFlight.length) :
    sendJobs (fuel + 1) s = sendJobs fuel s := by
  induction fuel generalizing s with
  | zero =>
    have hfull : s.sendable = none := sendable_of_cannot_send fun hp => by have := hp.2; omega
    simp only [sendJobs, hfull]
  | succ fuel ih =>
    cases hs : s.sendable with
    | none => rw [sendJobs, sendJobs, hs]
    | some j =>
      rw [sendJobs_succ_of_sendable _ hs, sendJobs_succ_of_sendable _ hs,
        ih (by rw [sendJob_window, sendJob_inFlight_length]; omega)]

/-- An attempt that may send its head pauses at a charged one with no slot, else sends it and attempts again. -/
theorem attempt_of_sendable (h : s.sendable = some j) : s.attempt =
    if j.charge = true ∧ ¬ s.jnl.hasRoom then s.modPrn fun p => { p with paused := true }
    else (s.sendJob j).attempt := by
  have hagain : sendJobs s.prn.window (s.sendJob j) = (s.sendJob j).attempt := by
    rw [State.attempt, sendJob_window, sendJobs_succ (by rw [sendJob_window, sendJob_inFlight_length]; omega)]
  rw [State.attempt, sendJobs_succ_of_sendable _ h, hagain]

/-! ### The lines of a job as it is taken (R163, R164) -/

theorem linesOf_of_lines {l : List Text} (h : j.lines = some l) : s.linesOf j = l := by
  rw [State.linesOf, h]

theorem linesOf_of_content {ls : List (List Piece)} {x : Frame} (h : j.lines = none)
    (hc : s.lbl.content? j.template = some ls) (hx : s.frame? j.roll j.frame = some x) :
    s.linesOf j = s.composeLabel x ls := by
  rw [State.linesOf, h, hc, hx]

end

/-! ### Parity (R169) -/

theorem oddParity_makes_odd (b : Byte) :
    (((List.range 8).filter fun i => b.getLsbD i).length + (oddParity b).toNat) % 2 = 1 := by
  unfold oddParity
  rcases Nat.mod_two_eq_zero_or_one ((List.range 8).filter fun i => b.getLsbD i).length with heven | hodd
  · rw [heven, show ((0 : Nat) == 0).toNat = 1 from rfl]
    omega
  · rw [hodd, show ((1 : Nat) == 0).toNat = 0 from rfl]
    omega

/-! ### PRINTER_SET and PRINTER_STATUS (R172, R182) -/

/-- Enabling attempts to send, from OFF after going to IDLE; disabling a link that is not OFF stops its timers and its
receiver. -/
theorem setPrinter_eq (f : PrinterSetReq) (s : State) :
    let p := { s.prn with window := f.window, enabled := f.enable }
    s.setPrinter f = if f.enable then
        (if s.prn.state = .off then
           State.attempt { s with prn := { p with state := .idle, paused := false, roomReport := false } }
         else State.attempt { s with prn := p })
      else if s.prn.state = .off then { s with prn := p }
      else
        { s with prn := { p with state := .off, printerTimer := none, statusTimer := none, receiver := .hunting
                                 paused := false, roomReport := false } } := by
  intro p
  unfold State.setPrinter
  split
  · next hoff hon => rw [if_pos hon, if_pos hoff]; rfl
  · next hoff hdisabled => rw [if_neg (by simp [hdisabled]), if_pos hoff]; rfl
  · next hon hnot => rw [if_pos hon, if_neg (show ¬ s.prn.state = .off from hnot)]; rfl
  · next hdisabled hnot =>
    rw [if_neg (by simp [hdisabled]), if_neg (show ¬ s.prn.state = .off from hnot)]
    rfl

theorem answerPrinterSet_taken {f : PrinterSetReq} {s : State} (hf : within 1 8 f.window)
    (hb : ¬ (f.enable = false ∧ s.prn.state = .sending)) :
    answerPrinterSet f s = taken (s.setPrinter f) (.linkState (s.setPrinter f).prn.state) := by
  rw [answerPrinterSet, if_neg (not_not.mpr hf), if_neg hb]

/-- Settles O54: the requests, the attempt by its head, the job sent, its lines, and the parity. -/
theorem printerSetAndStatus : Obligations.PrinterSetAndStatus := by
  refine ⟨fun tag f g s ha => ⟨?_, ?_⟩, fun s => ⟨?_, fun before j after hjobs hsent hwaiting => ⟨?_, ?_⟩⟩, ?_,
    fun s j => ⟨fun l => linesOf_of_lines, fun ls x => linesOf_of_content⟩,
    fun b => ⟨oddParity b, rfl, oddParity_makes_odd b⟩⟩
  · split
    · next hbad => exact request_answers ha (if_pos (by omega))
    · next hgood =>
      have hf : within 1 8 f.window := by omega
      split
      · next hbusy => exact request_answers ha ((if_neg (not_not.mpr hf)).trans (if_pos hbusy))
      · next hbusy =>
        have hset := answerPrinterSet_taken (s := s.asked) hf hbusy
        rw [setPrinter_eq] at hset
        exact request_answers ha hset
  · exact request_answers ha rfl
  · rintro (⟨hidle, hsending⟩ | hfull | hall)
    · exact attempt_of_not_sendable (sendable_of_cannot_send fun hp => hp.1.elim hidle hsending)
    · exact attempt_of_not_sendable (sendable_of_cannot_send fun hp => Nat.not_lt.mpr hfull hp.2)
    · exact attempt_of_not_sendable (sendable_of_all_sent hall)
  · intro hnot
    refine attempt_of_not_sendable (sendable_of_head_not_ready ⟨hjobs, hsent, hwaiting⟩ ?_)
    rintro ⟨hqueued, hready⟩
    exact hnot.elim (fun h => h hqueued) (fun h => h (Lbl.ready_iff.mp hready))
  · intro hlink hroom hqueued hready
    exact attempt_of_sendable ((sendable_of_head ⟨hlink, hroom⟩ ⟨hjobs, hsent, hwaiting⟩).trans
      (if_pos ⟨hqueued, Lbl.ready_iff.mpr hready⟩))
  · intro s before j after hjobs hsent hwaiting
    have hsend := sendJob_eq (s := s) ⟨hjobs, hsent, hwaiting⟩
    rw [touchFor_lru] at hsend
    exact hsend

end Sys2Proof.Machine
end

section
/-! SUPPORT. FAULT_CLEAR and the recovery of a station (R189 to R192). -/

namespace Sys2Proof.Machine

section

variable {s : State} {st : Station} {x : FaultMemory}

/-! ### A station recovers (R190, R191) -/

theorem recover_notInFault (h : (s.seq st).mode ≠ .fault) : s.recover st = s := by
  unfold State.recover
  split
  · next hmode _ => exact absurd hmode h
  · rfl

theorem recover_unfinished (hmode : (s.seq st).mode = .fault) (hx : (s.seq st).faultMemory = some x)
    (hu : x.unfinished = true) : s.recover st = (s.startMove st .recovery).filmEndIfSeen st := by
  simp only [State.recover, hmode, hx, hu, if_true]

theorem recover_rewindTimeout (hmode : (s.seq st).mode = .fault) (hx : (s.seq st).faultMemory = some x)
    (hu : x.unfinished = false) (hcause : x.cause = .rewindTimeout) : s.recover st =
      ((s.modSeq st fun q => { q with faultMemory := none }).setMode st .ending).modDrive st Drive.startRewind := by
  simp only [State.recover, hmode, hx, hu, hcause, Bool.false_eq_true, if_false]

theorem recover_misfireRepeat (hmode : (s.seq st).mode = .fault) (hx : (s.seq st).faultMemory = some x)
    (hu : x.unfinished = false) (hcause : x.cause = .misfireRepeat) : s.recover st = s.recovered st := by
  simp only [State.recover, hmode, hx, hu, hcause, Bool.false_eq_true, if_false]

/-- A station leaves FAULT with its order HELD and its item settled: the order and the fault memory go at once. -/
theorem recovered_eq (st : Station) (s : State) : s.recovered st =
    (((s.holdCurrent st .fault).settle st).modSeq st fun q => { q with current := none, faultMemory := none }).rest st := by
  rw [State.recovered, State.leaveOrder, State.clearCurrent, modSeq_modSeq]

/-! ### A recovery pull completes (R190) -/

theorem pullOver_leaderJam (hx : (s.seq st).faultMemory = some x) (hcause : x.cause = .leaderJam) : s.pullOver st =
    ((s.modSeq st fun q => { q with faultMemory := none }).setMode st .loading).leaderOver st := by
  obtain ⟨before, cause, unfinished⟩ := x
  subst hcause
  simp only [State.pullOver, hx]

theorem pullOver_otherCause (hx : (s.seq st).faultMemory = some x) (hcause : x.cause ≠ .leaderJam) :
    s.pullOver st = s.recovered st := by
  unfold State.pullOver
  split
  · next hjam =>
    rw [hx] at hjam
    cases hjam
    exact absurd rfl hcause
  · rfl

/-! ### FAULT_CLEAR (R189, R192) -/

variable {f : UnitReq} {u : Unit5}

theorem answerFaultClear_noUnit (hu : unitOf? f.unit = none) : answerFaultClear f s = refuse s .badField := by
  rw [answerFaultClear, hu]

theorem answerFaultClear_empty (hu : unitOf? f.unit = some u) (h : s.flt.get u = none) :
    answerFaultClear f s = refuse s .state := by
  rw [answerFaultClear, hu]
  exact if_pos (Option.isNone_iff_eq_none.mpr h)

theorem answerFaultClear_locked (hu : unitOf? f.unit = some u) (h : s.flt.get u ≠ none) :
    answerFaultClear f s = taken (State.recoverUnit u { s with flt := s.flt.set u none }) := by
  rw [answerFaultClear, hu]
  exact if_neg (mt Option.isNone_iff_eq_none.mp h)

end

/-- Settles O57: the characters heard, the frames they end, FAULT_CLEAR by its unit, and the recovery by the fault memory. -/
theorem faultsAreCapturedAndCleared : Obligations.FaultsAreCapturedAndCleared := by
  refine ⟨fun cs s => ?_, fun s q m code => ⟨rfl, rfl, rfl, rfl, rfl⟩, fun tag f s ha => ?_, fun st s => ?_⟩
  · have hheard := hear_begun cs s
    split
    · next hoff => exact event_does (hheard.trans (if_pos hoff))
    · next hon => exact event_does (hheard.trans (if_neg hon))
  · intro c
    split
    · next hu => exact request_answers ha (answerFaultClear_noUnit hu)
    · next u hu =>
      intro t
      split
      · next hempty => exact request_answers ha (answerFaultClear_empty (s := s.asked) hu hempty)
      · next hlocked =>
        have hclear := answerFaultClear_locked (s := s.asked) hu hlocked
        cases u <;> exact request_answers ha hclear
  · intro left free
    have hleft : s.recovered st = left s := recovered_eq st s
    exact ⟨recover_notInFault, fun x hmode hx => ⟨recover_unfinished hmode hx, recover_rewindTimeout hmode hx,
      fun hu hcause => (recover_misfireRepeat hmode hx hu hcause).trans hleft,
      pullOver_leaderJam hx, fun hcause => (pullOver_otherCause hx hcause).trans hleft⟩⟩

end Sys2Proof.Machine
end

section
/-! SUPPORT. What leaves the captures alone at a station and on the label path: dispatch, the frame sequence but for its
misfires, the end of a move, the door, and the printer's jobs (R8, R27 to R48, R98 to R110, R130, R162 to R176). -/

namespace Sys2Proof.Machine

/-! ### Announcing, taking an order, dispatch (R8, R27 to R30) -/

/-- A run that leaves every capture alone. -/
def KeepsFlt (f : State → State) : Prop := ∀ s : State, (f s).flt = s.flt

theorem KeepsFlt.announceFrom {again : State → State} (ha : KeepsFlt again) (fuel : Nat) (st : Station) :
    KeepsFlt (announceFrom again fuel st) := by
  induction fuel with
  | zero => exact fun _ => rfl
  | succ fuel ih =>
    intro s
    simp only [Machine.announceFrom]
    split
    · rfl
    · split
      · simp [ha _]
      · split <;> simp [ih _]

theorem KeepsFlt.takeOrder {again : State → State} (ha : KeepsFlt again) (st : Station) (o : Order) :
    KeepsFlt (State.takeOrder again st o) := by
  intro s
  simp only [State.takeOrder, State.announce]
  split <;> simp [ha.announceFrom _ _ _]

theorem KeepsFlt.giveBack {again : State → State} (ha : KeepsFlt again) (st : Station) :
    KeepsFlt (State.giveBack again st) := by
  intro s
  unfold State.giveBack
  (repeat' split) <;> simp [ha.takeOrder _ _ _]

theorem KeepsFlt.offer {again : State → State} (ha : KeepsFlt again) (st : Station) :
    KeepsFlt (State.offer again st) := by
  intro s
  unfold State.offer
  (repeat' split) <;> simp [ha.takeOrder _ _ _]

theorem dispatchTo_keepsFlt (depth : Nat) : KeepsFlt (dispatchTo depth) := by
  induction depth with
  | zero => exact fun _ => rfl
  | succ depth ih => exact fun s => by simp only [dispatchTo, dispatchRun, ih.offer _ _, ih.giveBack _ _]

section

variable (s : State) (st : Station)

@[simp] theorem State.dispatch_flt : s.dispatch.flt = s.flt := dispatchTo_keepsFlt _ s

@[simp] theorem State.announce_flt : (s.announce State.dispatch st).flt = s.flt :=
  KeepsFlt.announceFrom State.dispatch_flt _ st s

@[simp] theorem State.becomeReady_flt : (s.becomeReady st).flt = s.flt := by simp [State.becomeReady]

/-! ### Slots and requests to the generator (R33, R34, R41, R46) -/

@[simp] theorem State.genFaultUnfired_flt : (s.genFaultUnfired st).flt = s.flt := by
  simp only [State.genFaultUnfired]
  split <;> simp

@[simp] theorem State.placeRequest_flt (cls energy : Nat) : (s.placeRequest st cls energy).flt = s.flt := by
  unfold State.placeRequest
  split <;> simp

@[simp] theorem State.claim_flt (early : Bool) : (s.claim early st).flt = s.flt := by
  simp only [State.claim]
  split
  · split
    · cases early <;> simp
    · rfl
  · rfl

@[simp] theorem State.takeSlot_flt : (s.takeSlot st).flt = s.flt := rfl

@[simp] theorem State.beginEntry_flt : (s.beginEntry st).flt = s.flt := by
  unfold State.beginEntry
  (repeat' split) <;> simp

@[simp] theorem State.earlyRequest_flt : (s.earlyRequest st).flt = s.flt := by
  unfold State.earlyRequest
  (repeat' split) <;> simp

/-! ### Frames (R35, R36, R39, R44, R46, R87) -/

@[simp] theorem State.advance_flt (early : Bool) : (s.advance early st).flt = s.flt := by
  cases early <;> simp [State.advance]

@[simp] theorem State.recordShot_flt (kind : FrameKind) : (s.recordShot st kind).flt = s.flt := by
  unfold State.recordShot
  split <;> rfl

@[simp] theorem State.endGrant_flt : (s.endGrant st).flt = s.flt := by simp [State.endGrant]

@[simp] theorem State.postExposure_flt (roll frame : Nat) : (s.postExposure st roll frame).flt = s.flt := by
  unfold State.postExposure
  (repeat' split) <;> simp

@[simp] theorem State.completeEntry_flt : (s.completeEntry st).flt = s.flt := by
  simp only [State.completeEntry]
  split <;> simp

@[simp] theorem State.spoilAndLeave_flt : (s.spoilAndLeave st).flt = s.flt := by simp [State.spoilAndLeave]

@[simp] theorem State.confirmPop_flt : (s.confirmPop st).flt = s.flt := by
  simp only [State.confirmPop]
  (repeat' split) <;> simp

@[simp] theorem State.genFaultHolder_flt (given : Nat) : (s.genFaultHolder st given).flt = s.flt := by
  simp only [State.genFaultHolder]
  (repeat' split) <;> simp

@[simp] theorem State.genFaultWaiting_flt (listed : List GenRequest) : (s.genFaultWaiting listed st).flt = s.flt := by
  unfold State.genFaultWaiting
  split <;> simp

@[simp] theorem State.enterGenFault_flt : s.enterGenFault.flt = s.flt := by
  simp only [State.enterGenFault, State.genFaultWaiting_flt]
  split <;> simp

@[simp] theorem State.leave_flt : (s.leave st).flt = s.flt := by
  unfold State.leave
  (repeat' split) <;> simp

/-! ### The end of a move, recovery, the door (R37, R38, R48, R98 to R102, R110, R190, R191) -/

@[simp] theorem State.rest_flt : (s.rest st).flt = s.flt := by
  unfold State.rest
  split <;> simp

@[simp] theorem State.itemOver_flt (c : ItemContext) : (s.itemOver st c).flt = s.flt := by
  simp only [State.itemOver]
  (repeat' split) <;> simp

@[simp] theorem State.advanceOver_flt : (s.advanceOver st).flt = s.flt := by
  unfold State.advanceOver
  (repeat' split) <;> simp

@[simp] theorem State.leaderOn_flt : (s.leaderOn st).flt = s.flt := by
  unfold State.leaderOn
  (repeat' split) <;> simp

@[simp] theorem State.leaderOver_flt : (s.leaderOver st).flt = s.flt := by simp [State.leaderOver]

@[simp] theorem State.recovered_flt : (s.recovered st).flt = s.flt := by simp [State.recovered]

@[simp] theorem State.pullOver_flt : (s.pullOver st).flt = s.flt := by
  unfold State.pullOver
  split <;> simp

@[simp] theorem State.moveOver_flt (m : Move) : (s.moveOver st m).flt = s.flt := by
  cases m with
  | leader | recovery | rewind => simp [State.moveOver]
  | advance =>
    simp only [State.moveOver]
    (repeat' split) <;> simp

@[simp] theorem State.recover_flt : (s.recover st).flt = s.flt := by
  unfold State.recover
  (repeat' split) <;> simp

@[simp] theorem State.recoverUnit_flt (u : Unit5) : (s.recoverUnit u).flt = s.flt := by
  unfold State.recoverUnit
  split <;> simp

@[simp] theorem State.spoilAtDoor_flt : (s.spoilAtDoor st).flt = s.flt := by
  unfold State.spoilAtDoor
  (repeat' split) <;> simp

@[simp] theorem State.rollOpened_flt : (s.rollOpened st).flt = s.flt := by
  unfold State.rollOpened
  (repeat' split) <;> simp

@[simp] theorem State.doorOpen_flt : (s.doorOpen st).flt = s.flt := by
  simp only [State.doorOpen]
  split <;> simp

end

section

variable (s : State)

/-! ### The label path and the printer's jobs (R130, R162, R167, R173 to R178) -/

@[simp] theorem State.examineHead_flt : s.examineHead.flt = s.flt := (examineHead_keeps s).flt
@[simp] theorem State.attempt_flt : s.attempt.flt = s.flt := (attempt_keeps s).flt
@[simp] theorem State.examine_flt : s.examine.flt = s.flt := (examine_keeps s).flt

@[simp] theorem State.examineNew_flt (had : Bool) : (s.examineNew had).flt = s.flt := by
  cases had <;> simp [State.examineNew]

@[simp] theorem State.queueJob_flt (f : Frame) (charge : Bool) : (s.queueJob f charge).flt = s.flt := by
  simp only [State.queueJob, State.modFrame_flt, State.modLbl_flt]
  split <;> rfl

@[simp] theorem State.postMount_flt (roll frame : Nat) : (s.postMount roll frame).flt = s.flt := by
  simp only [State.postMount, State.appendEntry_flt]
  split <;> simp

@[simp] theorem State.framePrinted_flt (roll frame : Nat) : (s.framePrinted roll frame).flt = s.flt := by
  simp [State.framePrinted]

@[simp] theorem State.completeOldest_flt : s.completeOldest.flt = s.flt := by
  unfold State.completeOldest
  split
  · rfl
  · extract_lets charged t
    have ht : t.flt = s.flt := State.framePrinted_flt ..
    rw [State.removeSent, State.modLbl_flt]
    split <;> simp [ht]

theorem completeMany_flt (n : Nat) : (completeMany n s).flt = s.flt := by
  induction n generalizing s with
  | zero => rfl
  | succ n ih => rw [completeMany, ih, State.completeOldest_flt]

theorem handBackSlots_flt (xs : List InFlight) : (handBackSlots xs s).flt = s.flt := by
  induction xs generalizing s with
  | nil => rfl
  | cons x xs ih =>
    simp only [handBackSlots, List.foldl_cons] at ih ⊢
    rw [ih]
    split <;> simp

@[simp] theorem State.returnAll_flt : s.returnAll.flt = s.flt := by
  simp [State.returnAll, State.returnJobs, handBackSlots_flt]

@[simp] theorem State.markRisk_flt (xs : List InFlight) : (s.markRisk xs).flt = s.flt := by
  induction xs generalizing s with
  | nil => rfl
  | cons x xs ih => exact ih _

@[simp] theorem State.settleJobs_flt (named : Nat) : (s.settleJobs named).flt = s.flt := by
  unfold State.settleJobs
  (repeat' split) <;> simp [completeMany_flt]

@[simp] theorem State.toHeld_flt : s.toHeld.flt = s.flt := rfl

@[simp] theorem State.setLink_flt (x : LinkState) : (s.setLink x).flt = s.flt := rfl

@[simp] theorem State.sendAsk_flt : s.sendAsk.flt = s.flt := rfl

@[simp] theorem State.printerReady_flt : s.printerReady.flt = s.flt := by
  unfold State.printerReady
  split <;> simp

@[simp] theorem State.statusWaited_flt : s.statusWaited.flt = s.flt := by
  unfold State.statusWaited
  (repeat' split) <;> rfl

@[simp] theorem State.setPrinter_flt (f : PrinterSetReq) : (s.setPrinter f).flt = s.flt := by
  simp only [State.setPrinter]
  split <;> simp

end

end Sys2Proof.Machine
end

section
/-! SUPPORT. The captures under every request: none but FAULT_CLEAR changes one (R3 to R201). -/

namespace Sys2Proof.Machine

/-! ### The requests of the order manager (R3 to R15) -/

/-- What a request answers with every capture as it finds it. -/
def FltKept {α : Type} (owner : α → State → Answer) : Prop := ∀ f s, (owner f s).state.flt = s.flt

theorem Reads.fltKept {α : Type} {owner : α → State → Answer} (h : Reads owner) : FltKept owner := fun f s => by
  rw [h f s]

theorem fltKept_atStation {α : Type} {n : α → Nat} {owner : α → Station → State → Answer}
    (h : ∀ f st s, (owner f st s).state.flt = s.flt) : FltKept fun f s => atStation (n f) s (owner f) := by
  intro f s
  show (atStation (n f) s (owner f)).state.flt = s.flt
  unfold atStation
  split
  · rfl
  · exact h f _ s

theorem foldl_freeOrder_flt (ids : List Nat) (s : State) : (ids.foldl (fun t id => t.freeOrder id) s).flt = s.flt := by
  induction ids generalizing s with
  | nil => rfl
  | cons id ids ih => rw [List.foldl_cons, ih, State.freeOrder_flt]

theorem releaseKeeper_flt (id : Nat) (st : Station) (s : State) : (s.releaseKeeper id st).flt = s.flt := by
  unfold State.releaseKeeper
  (repeat' split) <;> simp

theorem fltKept_orderOpen : FltKept answerOrderOpen := by
  intro f s
  unfold answerOrderOpen
  (repeat' split) <;> rfl

theorem fltKept_itemAdd : FltKept answerItemAdd := by
  intro f s
  unfold answerItemAdd
  (repeat' split) <;> rfl

theorem fltKept_orderSubmit : FltKept answerOrderSubmit := by
  intro f s
  simp only [answerOrderSubmit]
  (repeat' split) <;> simp

theorem fltKept_hold : FltKept answerHold := by
  intro f s
  simp only [answerHold]
  (repeat' split) <;> simp

theorem fltKept_release : FltKept answerRelease := by
  intro f s
  unfold answerRelease
  (repeat' split) <;> simp

theorem fltKept_orderPriority : FltKept answerOrderPriority := by
  intro f s
  unfold answerOrderPriority
  (repeat' split) <;> rfl

theorem fltKept_orderCancel : FltKept answerOrderCancel := by
  intro f s
  simp only [answerOrderCancel]
  (repeat' split) <;> simp [releaseKeeper_flt]

/-! ### The requests at a station, of the rolls and of the generator (R21, R31, R32, R42, R43, R88, R93 to R117) -/

theorem fltKept_stationSet : FltKept answerStationSet := fltKept_atStation fun f st s => by
  (repeat' split) <;> rfl

theorem fltKept_placed : FltKept answerPlaced := fltKept_atStation fun f st s => by
  split <;> simp [State.place]

theorem fltKept_inputTake : FltKept answerInputTake := fltKept_atStation fun _ _ _ => rfl

theorem fltKept_skipItem : FltKept answerSkipItem := fltKept_atStation fun f st s => by
  split
  · dsimp only
    split <;> simp
  · rfl
  · rfl

theorem fltKept_abort : FltKept answerAbort := fltKept_atStation fun f st s => by
  split <;> simp

theorem fltKept_genClear : FltKept answerGenClear := by
  intro f s
  unfold answerGenClear
  (repeat' split) <;> rfl

theorem fltKept_stockSet : FltKept answerStockSet := by
  intro f s
  unfold answerStockSet
  (repeat' split) <;> rfl

theorem fltKept_stockSetRemove : FltKept answerStockSetRemove := by
  intro f s
  unfold answerStockSetRemove
  (repeat' split) <;> rfl

theorem fltKept_load : FltKept answerLoad := fltKept_atStation fun f st s => by
  (repeat' split) <;> simp

theorem fltKept_unloadEarly : FltKept answerUnloadEarly := fltKept_atStation fun f st s => by
  (repeat' split) <;> simp

theorem fltKept_cull : FltKept answerCull := by
  intro f s
  simp only [answerCull]
  (repeat' split) <;> simp

theorem fltKept_closeRoll : FltKept answerCloseRoll := by
  intro f s
  simp only [answerCloseRoll]
  (repeat' split) <;> simp [foldl_freeOrder_flt, State.freeRoll]

theorem fltKept_confirmRoll : FltKept answerConfirmRoll := fltKept_atStation fun f st s => by
  (repeat' split) <;> simp

theorem fltKept_declareUnloaded : FltKept answerDeclareUnloaded := fltKept_atStation fun f st s => by
  split
  · rfl
  · dsimp only
    split <;> simp

/-! ### The requests of the accounts, the journal and the day clock (R119 to R146) -/

theorem fltKept_tariffSet : FltKept answerTariffSet := by
  intro f s
  unfold answerTariffSet
  split <;> rfl

theorem fltKept_accountSet : FltKept answerAccountSet := by
  intro f s
  unfold answerAccountSet
  (repeat' split) <;> rfl

theorem fltKept_accountClear : FltKept answerAccountClear := by
  intro f s
  unfold answerAccountClear
  (repeat' split) <;> rfl

theorem fltKept_adjust : FltKept answerAdjust := by
  intro f s
  simp only [answerAdjust]
  (repeat' split) <;> simp

theorem fltKept_journalRelease : FltKept answerJournalRelease := by
  intro f s
  simp only [answerJournalRelease]
  (repeat' split) <;> simp

theorem fltKept_clockSet : FltKept answerClockSet := by
  intro f s
  unfold answerClockSet
  split <;> rfl

/-! ### The requests of the label composer, the printer link and LNK (R151 to R160, R172, R182, R201, R203) -/

theorem fltKept_labelRoll : FltKept answerLabelRoll := by
  have hqueue (now : List Frame) (s : State) : (now.foldl (fun t x => t.queueJob x true) s).flt = s.flt := by
    induction now generalizing s with
    | nil => rfl
    | cons x now ih => rw [List.foldl_cons, ih, State.queueJob_flt]
  intro f s
  simp only [answerLabelRoll]
  (repeat' split) <;> simp [hqueue]

theorem fltKept_labelFrame : FltKept answerLabelFrame := by
  intro f s
  unfold answerLabelFrame
  (repeat' split) <;> simp

theorem fltKept_labelCancel : FltKept answerLabelCancel := by
  intro f s
  simp only [answerLabelCancel]
  (repeat' split) <;> simp [State.cancelJobs]

theorem fltKept_templateLoad : FltKept answerTemplateLoad := by
  intro f s
  simp only [answerTemplateLoad]
  (repeat' split) <;> simp

theorem fltKept_templateLock : FltKept answerTemplateLock := by
  intro f s
  simp only [answerTemplateLock]
  (repeat' split) <;> simp

theorem fltKept_templateUnlock : FltKept answerTemplateUnlock := by
  intro f s
  unfold answerTemplateUnlock
  (repeat' split) <;> rfl

theorem fltKept_templateDrop : FltKept answerTemplateDrop := by
  intro f s
  unfold answerTemplateDrop
  (repeat' split) <;> simp

theorem fltKept_printerSet : FltKept answerPrinterSet := by
  intro f s
  simp only [answerPrinterSet]
  (repeat' split) <;> simp

theorem fltKept_printerStatus : FltKept answerPrinterStatus := by
  intro f s
  simp only [answerPrinterStatus, taken_state]
  split <;> rfl

theorem fltKept_status : FltKept answerStatus := fun _ _ => rfl

/-- A warm or stand reset keeps every capture (R193). -/
theorem keepReset_flt (lnk : Lnk) (doors : PerStation Door) (ready : Bool) (s : State) :
    (s.keepReset lnk doors ready).flt = s.flt :=
  (labelStart_keeps { s.keptReset doors ready with lnk := lnk }).flt

theorem fltKept_standReset : FltKept answerStandReset := fun _ s => keepReset_flt _ _ _ s

/-! ### Requests as LNK takes them (R197) -/

theorem takeRequest_flt {kind tag : Byte} {answer : State → Answer} (h : ∀ s, (answer s).state.flt = s.flt)
    (s : State) : (takeRequest kind tag answer s).flt = s.flt := by
  simp only [takeRequest]
  split
  · rfl
  · split
    · rfl
    · exact h s.frameTaken

theorem FltKept.takePayload {α : Type} {kind : RequestKind} {tag : Byte} {p : Payload α} {owner : α → State → Answer}
    (h : FltKept owner) (s : State) : (takePayload kind tag p owner s).flt = s.flt :=
  takeRequest_flt (fun t => by
    cases p with
    | fields f => exact h f t
    | malformed => rfl) s

/-- A request other than a well-formed FAULT_CLEAR leaves every capture as it was; an event is no request. -/
theorem takeCommand_flt {c : Instr} (hc : ∀ tag f, c ≠ .faultClear tag (.fields f)) (s : State) :
    (s.takeCommand c).flt = s.flt := by
  cases c with
  | faultClear tag p =>
    cases p with
    | fields f => exact absurd rfl (hc tag f)
    | malformed => exact takeRequest_flt (fun _ => rfl) s
  | orderOpen => exact fltKept_orderOpen.takePayload s
  | itemAdd => exact fltKept_itemAdd.takePayload s
  | orderSubmit => exact fltKept_orderSubmit.takePayload s
  | hold => exact fltKept_hold.takePayload s
  | release => exact fltKept_release.takePayload s
  | orderPriority => exact fltKept_orderPriority.takePayload s
  | orderCancel => exact fltKept_orderCancel.takePayload s
  | stationSet => exact fltKept_stationSet.takePayload s
  | placed => exact fltKept_placed.takePayload s
  | inputTake => exact fltKept_inputTake.takePayload s
  | skipItem => exact fltKept_skipItem.takePayload s
  | abort => exact fltKept_abort.takePayload s
  | genClear => exact fltKept_genClear.takePayload s
  | stockSet => exact fltKept_stockSet.takePayload s
  | stockSetRemove => exact fltKept_stockSetRemove.takePayload s
  | load => exact fltKept_load.takePayload s
  | unloadEarly => exact fltKept_unloadEarly.takePayload s
  | cull => exact fltKept_cull.takePayload s
  | closeRoll => exact fltKept_closeRoll.takePayload s
  | confirmRoll => exact fltKept_confirmRoll.takePayload s
  | declareUnloaded => exact fltKept_declareUnloaded.takePayload s
  | tariffSet => exact fltKept_tariffSet.takePayload s
  | accountSet => exact fltKept_accountSet.takePayload s
  | accountClear => exact fltKept_accountClear.takePayload s
  | adjust => exact fltKept_adjust.takePayload s
  | journalRelease => exact fltKept_journalRelease.takePayload s
  | clockSet => exact fltKept_clockSet.takePayload s
  | labelRoll => exact fltKept_labelRoll.takePayload s
  | labelFrame => exact fltKept_labelFrame.takePayload s
  | labelCancel => exact fltKept_labelCancel.takePayload s
  | templateLoad => exact fltKept_templateLoad.takePayload s
  | templateLock => exact fltKept_templateLock.takePayload s
  | templateUnlock => exact fltKept_templateUnlock.takePayload s
  | templateDrop => exact fltKept_templateDrop.takePayload s
  | printerSet => exact fltKept_printerSet.takePayload s
  | printerStatus => exact fltKept_printerStatus.takePayload s
  | status => exact fltKept_status.takePayload s
  | standReset => exact fltKept_standReset.takePayload s
  | orderRead => exact reads_orderRead.fltKept.takePayload s
  | itemRead => exact reads_itemRead.fltKept.takePayload s
  | stationRead => exact reads_stationRead.fltKept.takePayload s
  | planQueryDirect => exact reads_planQueryDirect.fltKept.takePayload s
  | planQueryStation => exact reads_planQueryStation.fltKept.takePayload s
  | planQueryItem => exact reads_planQueryItem.fltKept.takePayload s
  | genRead => exact reads_genRead.fltKept.takePayload s
  | stockRead => exact reads_stockRead.fltKept.takePayload s
  | frameRead => exact reads_frameRead.fltKept.takePayload s
  | tariffRead => exact reads_tariffRead.fltKept.takePayload s
  | accountRead => exact reads_accountRead.fltKept.takePayload s
  | journalRead => exact reads_journalRead.fltKept.takePayload s
  | clockRead => exact reads_clockRead.fltKept.takePayload s
  | labelRead => exact reads_labelRead.fltKept.takePayload s
  | templateRead => exact reads_templateRead.fltKept.takePayload s
  | faultRead => exact reads_faultRead.fltKept.takePayload s
  | ident => exact reads_ident.fltKept.takePayload s
  | unknownKind => exact takeRequest_flt (fun _ => rfl) s
  | _ => rfl

end Sys2Proof.Machine
end

section
/-! SUPPORT. A locked capture under everything that captures a fault, under FAULT_CLEAR, and under every event, so under
every command (R75, R99, R101, R170, R177 to R180, R184, R186, R189, R193). -/

namespace Sys2Proof.Machine

/-- The capture of the unit is `x`, its further-faults flag as in `x` or set (R186). -/
def HoldsCapture (u : Unit5) (x : Capture) (s : State) : Prop :=
  s.flt.get u = some x ∨ s.flt.get u = some { x with further := true }

/-- A run in which the capture stands. -/
def KeepsCapture (u : Unit5) (x : Capture) (f : State → State) : Prop :=
  ∀ s : State, HoldsCapture u x s → HoldsCapture u x (f s)

section

variable {u : Unit5} {x : Capture} {s t : State} {st : Station}

theorem HoldsCapture.of_flt (h : HoldsCapture u x s) (e : t.flt = s.flt) : HoldsCapture u x t := by
  rwa [HoldsCapture, e]

/-- Another fault of the unit sets the flag, which may be set already; a fault of another unit does nothing (R184, R186). -/
theorem HoldsCapture.capture (h : HoldsCapture u x s) (v : Unit5) (c : Capture) : HoldsCapture u x (s.capture v c) := by
  rcases h with h | h
  · exact capture_get v u c s x h
  · exact .inr <| (capture_get v u c s _ h).elim id id

/-! ### Misfires, jams, the rewind, the charge of the generator (R39, R40, R75, R99, R101) -/

theorem HoldsCapture.misfire (h : HoldsCapture u x s) : HoldsCapture u x (s.misfire st) := by
  simp only [State.misfire]
  split
  · split
    · exact (h.capture ..).of_flt <| (State.advance_flt ..).trans <| (State.dropSlot_flt ..).trans <|
        (State.recordShot_flt ..).trans (State.endGrant_flt ..)
    · exact h.of_flt (by simp)
  · exact h

/-- A jam touches the captures by its own fault alone. -/
theorem jam_flt (st : Station) (m : Move) (s : State) :
    (s.jam st m).flt = (s.capture (stationUnit st) (s.jamCapture st (s.jamFault st m))).flt := by
  simp only [State.jam]
  (repeat' split) <;> simp

theorem HoldsCapture.advanceTimedOut (h : HoldsCapture u x s) : HoldsCapture u x (s.advanceTimedOut st) := by
  unfold State.advanceTimedOut
  split
  · exact HoldsCapture.of_flt (.capture (s := s.modDrive st Drive.stop) h _ _) (jam_flt ..)
  · exact h

theorem HoldsCapture.rewindTimedOut (h : HoldsCapture u x s) : HoldsCapture u x (s.rewindTimedOut st) := by
  simp only [State.rewindTimedOut]
  split
  · exact HoldsCapture.of_flt (.capture (s := s.modDrive st Drive.stop) h _ _) (State.enterFault_flt ..)
  · exact h

theorem HoldsCapture.chargeTimedOut (h : HoldsCapture u x s) : HoldsCapture u x s.chargeTimedOut := by
  unfold State.chargeTimedOut
  split
  · exact (h.capture ..).of_flt (State.enterGenFault_flt _)
  · exact h

/-! ### The outcome of a fire (R35, R44, R77) -/

theorem HoldsCapture.popReport {act : State → State} (ha : KeepsCapture u x act) (h : HoldsCapture u x s) :
    HoldsCapture u x (s.popReport st act) := by
  simp only [State.popReport]
  split
  · exact h
  · exact ha _ h
  · exact h.of_flt (by simp)
  · exact h.of_flt (by simp)

theorem HoldsCapture.afterFiring {act : Station → State → State} (ha : ∀ st, KeepsCapture u x (act st))
    (h : HoldsCapture u x s) : HoldsCapture u x (s.afterFiring act) := by
  unfold State.afterFiring
  split
  · exact .popReport (ha _) h
  · exact h.of_flt (by simp)

theorem HoldsCapture.flashReported (h : HoldsCapture u x s) : HoldsCapture u x s.flashReported := by
  unfold State.flashReported
  split
  · exact .afterFiring (fun st t ht => ht.of_flt (t.confirmPop_flt st)) h
  · exact h

theorem HoldsCapture.windowExpired (h : HoldsCapture u x s) : HoldsCapture u x s.windowExpired := by
  unfold State.windowExpired
  split
  · exact .afterFiring (fun _ _ => .misfire) h
  · exact h

/-! ### The printer (R170, R177, R178, R180) -/

theorem HoldsCapture.printerDone {seq : Nat} (h : HoldsCapture u x s) : HoldsCapture u x (s.printerDone seq) := by
  simp only [State.printerDone]
  split
  · split
    · exact h.of_flt (by rw [State.attempt_flt]; split <;> simp)
    · exact (h.capture ..).of_flt ((State.toHeld_flt _).trans (State.returnAll_flt _))
  · exact h

theorem HoldsCapture.printerFault {code : PrinterCode} {named : Nat} (h : HoldsCapture u x s) :
    HoldsCapture u x (s.printerFault code named) := by
  unfold State.printerFault
  split
  case h_1 => exact h
  case h_2 => exact (h.capture ..).of_flt ((State.toHeld_flt _).trans (State.settleJobs_flt ..))
  all_goals exact (h.capture ..).of_flt (State.toHeld_flt _)

theorem HoldsCapture.printerTimedOut (h : HoldsCapture u x s) : HoldsCapture u x s.printerTimedOut := by
  simp only [State.printerTimedOut]
  split
  · exact (h.capture ..).of_flt <| (State.setLink_flt ..).trans <| (State.modPrn_flt ..).trans <|
      (State.sendAsk_flt _).trans <| (State.returnAll_flt _).trans (State.markRisk_flt ..)
  · exact h

theorem HoldsCapture.judged {got : PrinterGot} (h : HoldsCapture u x s) : HoldsCapture u x (s.judged got) := by
  cases got with
  | nothing => exact h
  | bad => exact h.capture ..
  | good e =>
    cases e with
    | done seq => exact HoldsCapture.printerDone h
    | fault seq code named => exact HoldsCapture.printerFault h
    | ready seq => exact h.of_flt s.printerReady_flt

theorem HoldsCapture.hear {cs : List PrinterChar} (h : HoldsCapture u x s) : HoldsCapture u x (s.hear cs) := by
  have hjudged (gots : List PrinterGot) : KeepsCapture u x fun s => gots.foldl State.judged s := by
    induction gots with
    | nil => exact fun _ h => h
    | cons g gots ih => exact fun _ h => ih _ h.judged
  unfold State.hear
  split
  · exact h
  · exact hjudged _ _ h

/-! ### FAULT_CLEAR and the characters of the host line (R189, R196, R197) -/

/-- FAULT_CLEAR of another unit leaves the capture as it was (R184, R189). -/
theorem HoldsCapture.faultClear {f : UnitReq} (hf : unitOf? f.unit ≠ some u) (h : HoldsCapture u x s) :
    HoldsCapture u x (answerFaultClear f s).state := by
  unfold answerFaultClear
  split
  · exact h
  · next v hv =>
    have huv : u ≠ v := fun e => hf (e ▸ hv)
    split
    · exact h
    · have hget : (s.flt.set v none).get u = s.flt.get u := by rw [Flt.get_set, if_neg huv]
      rw [taken_state, HoldsCapture, State.recoverUnit_flt, State.modFlt_flt, hget]
      exact h

theorem HoldsCapture.takeRequest {kind tag : Byte} {answer : State → Answer}
    (ha : KeepsCapture u x fun t => (answer t).state) (h : HoldsCapture u x s) :
    HoldsCapture u x (takeRequest kind tag answer s) := by
  simp only [Machine.takeRequest]
  split
  · exact h
  · split
    · exact h
    · exact ha s.frameTaken h

/-- A request clears no capture but by a FAULT_CLEAR of its unit (R189). -/
theorem HoldsCapture.takeCommand {c : Instr} (hc : ∀ tag f, c = .faultClear tag (.fields f) → unitOf? f.unit ≠ some u)
    (h : HoldsCapture u x s) : HoldsCapture u x (s.takeCommand c) := by
  by_cases hclear : ∃ tag f, c = .faultClear tag (.fields f)
  · obtain ⟨tag, f, rfl⟩ := hclear
    exact .takeRequest (fun _ => .faultClear (hc tag f rfl)) h
  · exact h.of_flt (takeCommand_flt (fun tag f e => hclear ⟨tag, f, e⟩) s)

theorem stationSet_lnk (f : StationSetReq) (s : State) : (answerStationSet f s).state.lnk = s.lnk := by
  unfold answerStationSet atStation
  split
  · rfl
  · dsimp only
    (repeat' split) <;> rfl

/-- A request leaves the host receiver HUNTING, as its frame does (R196). -/
theorem takeCommand_receiver (c : Instr) (hr : s.lnk.receiver = .hunting) :
    (s.takeCommand c).lnk.receiver = .hunting := by
  by_cases hset : ∃ tag p, c = .stationSet tag p
  · obtain ⟨tag, p, rfl⟩ := hset
    simp only [State.takeCommand, takePayload, Machine.takeRequest]
    split
    · rfl
    · split
      · rfl
      · cases p with
        | fields f => exact congrArg Lnk.receiver (stationSet_lnk f s.frameTaken)
        | malformed => rfl
  · rcases takeCommand_setup (fun tag p e => hset ⟨tag, p, e⟩) s with h | h
    · exact congrArg Setup.receiver h
    · exact (congrArg Setup.receiver h).trans hr

/-- What the frame that a character ends does leaves the receiver as the character left it. -/
theorem takeReceived_receiver (c : HostChar) (s : State) :
    ((s.receive (s.lnk.receiver.take c).1).takeReceived (s.lnk.receiver.take c).2).lnk.receiver =
      (s.lnk.receiver.take c).1 := by
  cases hg : (s.lnk.receiver.take c).2 with
  | nothing | bad => rfl
  | good f =>
    have hhunting := take_good hg
    simp only [State.takeReceived]
    split
    · rfl
    · exact (congrArg Setup.receiver (State.transmit_setup _)).trans <|
        (takeCommand_receiver _ hhunting).trans hhunting.symm

/-- Characters that bring about no FAULT_CLEAR of its unit leave a capture locked (R189, R197). -/
theorem HoldsCapture.hearHost {cs : List HostChar} (hc : ∀ r ∈ broughtBy (.hostBadFrame cs) s, ∀ tag f,
    r = .faultClear tag (.fields f) → unitOf? f.unit ≠ some u) (h : HoldsCapture u x s) :
    HoldsCapture u x (s.hearHost cs) := by
  induction cs generalizing s with
  | nil => exact h
  | cons c cs ih =>
    refine ih (fun r hr => hc r (mem_broughtBy_tail (takeReceived_receiver c s) hr)) ?_
    generalize hg : (s.lnk.receiver.take c).2 = got
    cases got with
    | nothing | bad => exact h
    | good f =>
      simp only [State.takeReceived]
      split
      · exact h
      · next htag => exact HoldsCapture.takeCommand (s := s.receive _) (hc _ (mem_broughtBy_head hg htag)) h

end

/-! ### The events that capture nothing -/

section

variable (s : State) (st : Station)

theorem readyRises_flt : s.readyRises.flt = s.flt := by
  simp only [State.readyRises, State.charged]
  (repeat' split) <;> simp

theorem readyFalls_flt : s.readyFalls.flt = s.flt := by
  simp only [State.readyFalls]
  split <;> rfl

theorem idleExpired_flt : s.idleExpired.flt = s.flt := by
  unfold State.idleExpired
  (repeat' split) <;> rfl

theorem cooled_flt : s.cooled.flt = s.flt := by simp [State.cooled]

theorem minutePassed_flt : s.minutePassed.flt = s.flt := by
  unfold State.minutePassed
  split <;> rfl

theorem gapExpired_flt : s.gapExpired.flt = s.flt := by
  unfold State.gapExpired
  split <;> rfl

theorem footEdge_flt (edge : Edge) : (s.footEdge st edge).flt = s.flt := by
  simp only [State.footEdge]
  (repeat' split) <;> simp [State.place]

theorem pulse_flt : (s.pulse st).flt = s.flt := by
  simp only [State.pulse]
  (repeat' split) <;> simp

theorem endSensed_flt : (s.endSensed st).flt = s.flt := by
  unfold State.endSensed
  split <;> simp

theorem rewound_flt : (s.rewound st).flt = s.flt := by
  simp only [State.rewound]
  (repeat' split) <;> simp

theorem askSlotAgain_flt : (s.askSlotAgain st).flt = s.flt := by
  simp only [State.askSlotAgain]
  (repeat' split) <;> simp

theorem attemptAgain_flt : s.attemptAgain.flt = s.flt := by
  unfold State.attemptAgain
  split <;> simp

/-- A reset by its pins keeps the captures where retention held (R193). -/
theorem resetBy_flt {pins : ResetPins} (h : pins.retentionHeld = true) : (s.resetBy pins).flt = s.flt := by
  rw [State.resetBy, if_pos h]
  exact keepReset_flt ..

end

/-! ### Every command -/

/-- Every command but FAULT_CLEAR of its unit and a cold reset is an event that leaves a capture locked. -/
theorem exec_holdsCapture {c : Instr} {s : State} {u : Unit5} {x : Capture}
    (hc : ∀ r ∈ broughtBy c s, ∀ tag f, r = .faultClear tag (.fields f) → unitOf? f.unit ≠ some u)
    (hcold : isColdReset c = false) (h : HoldsCapture u x s.begun) :
    ∃ f, exec c s = event f s ∧ HoldsCapture u x (f s.begun) := by
  cases c with
  | hostBadFrame => exact ⟨_, rfl, .hearHost hc h⟩
  | unknownKind tag kind =>
    obtain ⟨c, hb, he⟩ := execUnknownKind_eq tag kind s
    exact ⟨_, he, .takeCommand (hc c (by simp [hb])) h⟩
  | reset => exact ⟨_, rfl, h.of_flt (resetBy_flt _ (by simpa [isColdReset] using hcold))⟩
  | interByteGap => exact ⟨_, rfl, h.of_flt (gapExpired_flt _)⟩
  | frameSent => exact ⟨_, rfl, h⟩
  | footSwitchEdge => exact ⟨_, rfl, h.of_flt (footEdge_flt ..)⟩
  | doorOpened => exact ⟨_, rfl, h.of_flt (State.doorOpen_flt ..)⟩
  | doorClosed => exact ⟨_, rfl, h⟩
  | sprocketPulse => exact ⟨_, rfl, h.of_flt (pulse_flt ..)⟩
  | advanceTimeout => exact ⟨_, rfl, h.advanceTimedOut⟩
  | endOfFilmSensor => exact ⟨_, rfl, h.of_flt (endSensed_flt ..)⟩
  | rewindDone => exact ⟨_, rfl, h.of_flt (rewound_flt ..)⟩
  | rewindTimerExpiry => exact ⟨_, rfl, h.rewindTimedOut⟩
  | readyInputRise => exact ⟨_, rfl, h.of_flt (readyRises_flt _)⟩
  | readyInputFall => exact ⟨_, rfl, h.of_flt (readyFalls_flt _)⟩
  | flashSensorReport => exact ⟨_, rfl, h.flashReported⟩
  | flashConfirmWindowExpiry => exact ⟨_, rfl, h.windowExpired⟩
  | chargeTimerExpiry => exact ⟨_, rfl, h.chargeTimedOut⟩
  | idleDischarge => exact ⟨_, rfl, h.of_flt (idleExpired_flt _)⟩
  | cooling => exact ⟨_, rfl, h.of_flt (cooled_flt _)⟩
  | minuteTimerExpiry => exact ⟨_, rfl, h.of_flt (minutePassed_flt _)⟩
  | printerDone => exact ⟨_, rfl, h.hear⟩
  | printerFault => exact ⟨_, rfl, h.hear⟩
  | printerReady => exact ⟨_, rfl, h.hear⟩
  | badFrame => exact ⟨_, rfl, h.hear⟩
  | printerTimerExpiry => exact ⟨_, rfl, h.printerTimedOut⟩
  | statusWaitExpiry => exact ⟨_, rfl, h.of_flt (State.statusWaited_flt _)⟩
  | stationSlotRequest => exact ⟨_, rfl, h.of_flt (askSlotAgain_flt ..)⟩
  | printerSlotRequest => exact ⟨_, rfl, h.of_flt (attemptAgain_flt _)⟩
  | _ => exact ⟨_, exec_request rfl (by simp) s, .takeCommand (hc _ (by simp [broughtBy])) h⟩

/-- Settles O56: `Flt.get_set` is R184, and `State.capture` is R186 case by case. -/
theorem firstFaultFillsTheCapture : Obligations.FirstFaultFillsTheCapture := by
  refine ⟨fun u c s => ?_, fun u v c x => Flt.get_set x u v c⟩
  unfold State.capture
  cases s.flt.get u with
  | none => rfl
  | some old => rfl

/-- Settles O58: the other commands are events made of operations that leave the captures alone or add a further fault. -/
theorem firstFaultIsKept : Obligations.FirstFaultIsKept := by
  intro c s t u x hx hc hcold e
  obtain ⟨f, hf, hk⟩ := exec_holdsCapture (x := x) hc hcold (.inl hx)
  rw [hf] at e
  cases e
  exact hk

end Sys2Proof.Machine
end

section
/-! SUPPORT. LNK's reply list and the length of its notice queue under every operation that the commands share: they place
no reply, and the notices that they raise fill the queue no further than its capacity (R197, R200). -/

namespace Sys2Proof.Machine

/-- The reply list, and the notices beyond the capacity of the queue. -/
def Lnk.lists (l : Lnk) : List Reply × List Notice := (l.replies, l.notices.drop Config.maxNotices)

/-- The bounds read nothing else of LNK. -/
theorem linkBounded_iff (s : State) : LinkBounded s ↔ s.lnk.lists.1.length ≤ 8 ∧ s.lnk.lists.2 = [] := by
  rw [LinkBounded, Lnk.lists, List.drop_eq_nil_iff]
  rfl

/-- A notice joins the queue below its capacity alone (R200). -/
@[simp] theorem Lnk.raise_lists (n : Notice) (l : Lnk) : (l.raise n).lists = l.lists := by
  unfold Lnk.raise
  split
  · next h => simp [Lnk.lists, List.drop_of_length_le, Nat.le_of_lt h, Nat.succ_le_of_lt h]
  · rfl

@[simp] theorem Lnk.raiseAll_lists (ns : List Notice) (l : Lnk) :
    (ns.foldl (fun l n => l.raise n) l).lists = l.lists := by
  induction ns generalizing l with
  | nil => rfl
  | cons n ns ih => rw [List.foldl_cons, ih, Lnk.raise_lists]

section

variable (s : State)

@[simp] theorem State.raise_lists (n : Notice) : (s.raise n).lnk.lists = s.lnk.lists := Lnk.raise_lists n s.lnk

/-! ### Orders, journal, accounts, captures, film -/

@[simp] theorem State.holdOrder_lists (id : Nat) (reason : HoldReason) :
    (s.holdOrder id reason).lnk.lists = s.lnk.lists := by
  simp [State.holdOrder]

@[simp] theorem State.holdIfActive_lists (id : Nat) (reason : HoldReason) :
    (s.holdIfActive id reason).lnk.lists = s.lnk.lists := by
  unfold State.holdIfActive
  split <;> simp

@[simp] theorem State.exposeOrder_lists (id : Nat) : (s.exposeOrder id).lnk.lists = s.lnk.lists := by
  simp [State.exposeOrder]

@[simp] theorem State.appendEntry_lists (fills : Bool) (e : Nat → JournalEntry) :
    (s.appendEntry fills e).lnk.lists = s.lnk.lists := by
  simp only [State.appendEntry]
  split <;> simp

@[simp] theorem State.capture_lists (u : Unit5) (c : Capture) : (s.capture u c).lnk.lists = s.lnk.lists := by
  unfold State.capture
  split <;> simp

@[simp] theorem State.testLabelled_lists (n : Nat) (before : Bool) :
    (s.testLabelled n before).lnk.lists = s.lnk.lists := by
  unfold State.testLabelled
  split <;> simp

@[simp] theorem State.rollFull_lists (r : Roll) (st : Station) : (s.rollFull r st).lnk.lists = s.lnk.lists := by
  simp [State.rollFull]

@[simp] theorem State.rollOut_lists (n : Nat) (st : Station) (f : Roll → Roll) :
    (s.rollOut n st f).lnk.lists = s.lnk.lists := by
  simp only [State.rollOut]
  split <;> simp

/-! ### The generator and its grants -/

@[simp] theorem State.raiseGen_lists : s.raiseGen.lnk.lists = s.lnk.lists := by simp [State.raiseGen]

@[simp] theorem State.endGrant_lists (st : Station) :
    (s.endGrant st).lnk.lists = s.lnk.lists := by simp [State.endGrant]

@[simp] theorem State.listRequest_lists (r : GenRequest) : (s.listRequest r).lnk.lists = s.lnk.lists := by
  simp only [State.listRequest]
  split
  · simp
  · split
    · simp
    · split
      · rfl
      · split <;> simp
  all_goals rfl

/-! ### A station between frames (R22 to R30, R38, R47, R49) -/

@[simp] theorem State.setMode_lists (st : Station) (m : Mode) : (s.setMode st m).lnk.lists = s.lnk.lists := by
  simp only [State.setMode]
  split <;> simp

@[simp] theorem State.holdCurrent_lists (st : Station) (reason : HoldReason) :
    (s.holdCurrent st reason).lnk.lists = s.lnk.lists := by
  unfold State.holdCurrent
  split <;> simp

@[simp] theorem State.endItem_lists (st : Station) (id n : Nat) (e : ItemState) :
    (s.endItem st id n e).lnk.lists = s.lnk.lists := by
  simp only [State.endItem]
  split <;> simp

@[simp] theorem State.orderDone_lists (st : Station) (id : Nat) : (s.orderDone st id).lnk.lists = s.lnk.lists := by
  simp [State.orderDone]

@[simp] theorem State.endItemFirst_lists (st : Station) : (s.endItemFirst st).lnk.lists = s.lnk.lists := by
  simp only [State.endItemFirst]
  split
  · split
    · rfl
    · split <;> simp
  · rfl

@[simp] theorem State.takeRollEnd_lists (st : Station) : (s.takeRollEnd st).lnk.lists = s.lnk.lists := by
  simp only [State.takeRollEnd]
  split
  · split <;> simp
  · simp

@[simp] theorem State.enterFault_lists (st : Station) (c : StationFault) (u : Bool) :
    (s.enterFault st c u).lnk.lists = s.lnk.lists := by simp [State.enterFault]

end

section

variable (s : State)

@[simp] theorem State.filmEnd_lists (st : Station) : (s.filmEnd st).lnk.lists = s.lnk.lists := by
  simp only [State.filmEnd]
  split
  · rw [State.takeRollEnd_lists]
    split <;> simp
  · split <;> simp
  · simp

@[simp] theorem State.filmEndIfSeen_lists (st : Station) : (s.filmEndIfSeen st).lnk.lists = s.lnk.lists := by
  unfold State.filmEndIfSeen
  split <;> simp

@[simp] theorem State.keepHeld_lists (st : Station) (id : Nat) (reason : HoldReason) (hold : StationHold) :
    (s.keepHeld st id reason hold).lnk.lists = s.lnk.lists := by simp [State.keepHeld]

@[simp] theorem State.makeAnnounce_lists (st : Station) (o : Order) (i : Item) (rates : RateSnapshot) :
    (s.makeAnnounce st o i rates).lnk.lists = s.lnk.lists := by simp [State.makeAnnounce]

@[simp] theorem State.tryAnnounce_lists (st : Station) (o : Order) (i : Item) :
    (s.tryAnnounce st o i).lnk.lists = s.lnk.lists := by
  simp only [State.tryAnnounce]
  (repeat' split) <;> simp

@[simp] theorem State.advanceSeparator_lists (st : Station) (o : Order) :
    (s.advanceSeparator st o).lnk.lists = s.lnk.lists := by
  unfold State.advanceSeparator
  (repeat' split) <;> simp

end

/-- A run that places no reply and keeps the notice queue within its capacity. -/
def KeepsLists (f : State → State) : Prop := ∀ s : State, (f s).lnk.lists = s.lnk.lists

theorem KeepsLists.announceFrom {again : State → State} (ha : KeepsLists again) (fuel : Nat) (st : Station) :
    KeepsLists (announceFrom again fuel st) := by
  induction fuel with
  | zero => exact fun _ => rfl
  | succ fuel ih =>
    intro s
    simp only [Machine.announceFrom]
    split
    · rfl
    · split
      · rw [ha]
        simp
      · split
        · rw [ih]
          simp
        · simp

theorem KeepsLists.takeOrder {again : State → State} (ha : KeepsLists again) (st : Station) (o : Order) :
    KeepsLists (State.takeOrder again st o) := by
  intro s
  simp only [State.takeOrder]
  split
  · simp
  · rw [State.announce, ha.announceFrom]
    simp

theorem KeepsLists.giveBack {again : State → State} (ha : KeepsLists again) (st : Station) :
    KeepsLists (State.giveBack again st) := by
  intro s
  unfold State.giveBack
  split
  · split
    · exact ha.takeOrder st _ s
    · rfl
  · rfl

theorem KeepsLists.offer {again : State → State} (ha : KeepsLists again) (st : Station) :
    KeepsLists (State.offer again st) := by
  intro s
  unfold State.offer
  split
  · split
    · exact ha.takeOrder st _ s
    · rfl
  · rfl

theorem KeepsLists.dispatchRun {again : State → State} (ha : KeepsLists again) : KeepsLists (dispatchRun again) := by
  intro s
  simp only [Machine.dispatchRun, ha.offer _ _, ha.giveBack _ _]

theorem dispatchTo_keepsLists (depth : Nat) : KeepsLists (dispatchTo depth) := by
  induction depth with
  | zero => exact fun _ => rfl
  | succ depth ih => exact ih.dispatchRun

section

variable (s : State) (st : Station)

@[simp] theorem State.dispatch_lists : s.dispatch.lnk.lists = s.lnk.lists := dispatchTo_keepsLists _ s

@[simp] theorem State.announce_lists : (s.announce State.dispatch st).lnk.lists = s.lnk.lists :=
  KeepsLists.announceFrom State.dispatch_lists _ st s

@[simp] theorem State.becomeReady_lists : (s.becomeReady st).lnk.lists = s.lnk.lists := by simp [State.becomeReady]

/-! ### The frame sequence at a station (R31 to R49) -/

@[simp] theorem State.genFaultUnfired_lists : (s.genFaultUnfired st).lnk.lists = s.lnk.lists := by
  simp only [State.genFaultUnfired]
  split <;> simp

@[simp] theorem State.placeRequest_lists (cls energy : Nat) :
    (s.placeRequest st cls energy).lnk.lists = s.lnk.lists := by
  unfold State.placeRequest
  split <;> simp

@[simp] theorem State.claim_lists (early : Bool) : (s.claim early st).lnk.lists = s.lnk.lists := by
  simp only [State.claim]
  split
  · split
    · cases early <;> simp
    · rfl
  · rfl

@[simp] theorem State.takeSlot_lists : (s.takeSlot st).lnk.lists = s.lnk.lists := by simp [State.takeSlot]

@[simp] theorem State.beginEntry_lists : (s.beginEntry st).lnk.lists = s.lnk.lists := by
  unfold State.beginEntry
  (repeat' split) <;> simp

@[simp] theorem State.earlyRequest_lists : (s.earlyRequest st).lnk.lists = s.lnk.lists := by
  unfold State.earlyRequest
  (repeat' split) <;> simp

@[simp] theorem State.advance_lists (early : Bool) : (s.advance early st).lnk.lists = s.lnk.lists := by
  cases early <;> simp [State.advance]

@[simp] theorem State.recordShot_lists (kind : FrameKind) : (s.recordShot st kind).lnk.lists = s.lnk.lists := by
  unfold State.recordShot
  split <;> simp

@[simp] theorem State.postExposure_lists (roll frame : Nat) :
    (s.postExposure st roll frame).lnk.lists = s.lnk.lists := by
  unfold State.postExposure
  (repeat' split) <;> simp

@[simp] theorem State.completeEntry_lists : (s.completeEntry st).lnk.lists = s.lnk.lists := by
  simp only [State.completeEntry]
  split <;> simp

@[simp] theorem State.spoilAndLeave_lists :
    (s.spoilAndLeave st).lnk.lists = s.lnk.lists := by simp [State.spoilAndLeave]

@[simp] theorem State.misfire_lists : (s.misfire st).lnk.lists = s.lnk.lists := by
  simp only [State.misfire]
  split
  · split <;> simp
  · rfl

@[simp] theorem State.confirmPop_lists : (s.confirmPop st).lnk.lists = s.lnk.lists := by
  simp only [State.confirmPop]
  split
  · split <;> simp
  · simp

theorem State.popReport_lists {act : State → State} (ha : KeepsLists act) :
    (s.popReport st act).lnk.lists = s.lnk.lists := by
  simp only [State.popReport]
  split
  · rfl
  · rw [ha]
    simp
  · simp
  · simp

@[simp] theorem State.genFaultHolder_lists (given : Nat) : (s.genFaultHolder st given).lnk.lists = s.lnk.lists := by
  simp only [State.genFaultHolder]
  split
  · simp
  all_goals split <;> simp

@[simp] theorem State.genFaultWaiting_lists (listed : List GenRequest) :
    (s.genFaultWaiting listed st).lnk.lists = s.lnk.lists := by
  unfold State.genFaultWaiting
  split <;> simp

@[simp] theorem State.genToFault_lists : s.genToFault.lnk.lists = s.lnk.lists := by simp [State.genToFault]

@[simp] theorem State.enterGenFault_lists : s.enterGenFault.lnk.lists = s.lnk.lists := by
  simp only [State.enterGenFault, State.genFaultWaiting_lists]
  split <;> simp

@[simp] theorem State.leave_lists : (s.leave st).lnk.lists = s.lnk.lists := by
  unfold State.leave
  (repeat' split) <;> simp

/-! ### The end of a move, jams, the door (R37 to R49, R98 to R102, R187, R190) -/

@[simp] theorem State.rest_lists : (s.rest st).lnk.lists = s.lnk.lists := by
  unfold State.rest
  split <;> simp

@[simp] theorem State.itemOver_lists (c : ItemContext) : (s.itemOver st c).lnk.lists = s.lnk.lists := by
  simp only [State.itemOver]
  split
  · split <;> simp
  · simp

@[simp] theorem State.advanceOver_lists : (s.advanceOver st).lnk.lists = s.lnk.lists := by
  unfold State.advanceOver
  (repeat' split) <;> simp

@[simp] theorem State.leaderOn_lists : (s.leaderOn st).lnk.lists = s.lnk.lists := by
  unfold State.leaderOn
  (repeat' split) <;> simp

@[simp] theorem State.leaderOver_lists : (s.leaderOver st).lnk.lists = s.lnk.lists := by simp [State.leaderOver]

@[simp] theorem State.recovered_lists : (s.recovered st).lnk.lists = s.lnk.lists := by simp [State.recovered]

@[simp] theorem State.pullOver_lists : (s.pullOver st).lnk.lists = s.lnk.lists := by
  unfold State.pullOver
  split <;> simp

@[simp] theorem State.moveOver_lists (m : Move) : (s.moveOver st m).lnk.lists = s.lnk.lists := by
  cases m with
  | leader | recovery | rewind => simp [State.moveOver]
  | advance =>
    simp only [State.moveOver]
    split
    · split <;> simp
    · simp
    · simp

@[simp] theorem State.jam_lists (m : Move) : (s.jam st m).lnk.lists = s.lnk.lists := by
  simp only [State.jam]
  split
  · simp
  · split <;> simp

@[simp] theorem State.recover_lists : (s.recover st).lnk.lists = s.lnk.lists := by
  unfold State.recover
  (repeat' split) <;> simp

@[simp] theorem State.spoilAtDoor_lists : (s.spoilAtDoor st).lnk.lists = s.lnk.lists := by
  unfold State.spoilAtDoor
  (repeat' split) <;> simp

@[simp] theorem State.rollOpened_lists : (s.rollOpened st).lnk.lists = s.lnk.lists := by
  unfold State.rollOpened
  (repeat' split) <;> simp

@[simp] theorem State.doorOpen_lists : (s.doorOpen st).lnk.lists = s.lnk.lists := by
  simp only [State.doorOpen]
  split <;> simp

end

section

variable (s : State)

/-! ### Sending and the printer's reports (R162 to R182) -/

@[simp] theorem State.modHead_lnk (f : LabelJob → LabelJob) : (s.modHead f).lnk = s.lnk := rfl

@[simp] theorem State.setLink_lnk (x : LinkState) : (s.setLink x).lnk = s.lnk := rfl

@[simp] theorem State.examineHead_lists : s.examineHead.lnk.lists = s.lnk.lists := by
  unfold State.examineHead
  (repeat' split) <;> simp

@[simp] theorem State.takeHead_lists (j : LabelJob) (seq : Nat) : (s.takeHead j seq).lnk.lists = s.lnk.lists := by
  simp [State.takeHead]

@[simp] theorem State.sendJob_lists (j : LabelJob) : (s.sendJob j).lnk.lists = s.lnk.lists := by
  simp only [State.sendJob, State.emit_lnk, State.setLink_lnk, State.modPrn_lnk, State.takeHead_lists]
  split <;> rfl

theorem sendJobs_lists (fuel : Nat) (s : State) : (sendJobs fuel s).lnk.lists = s.lnk.lists := by
  induction fuel generalizing s with
  | zero => rfl
  | succ fuel ih =>
    unfold sendJobs
    split
    · rfl
    · split
      · rfl
      · rw [ih, State.sendJob_lists]

@[simp] theorem State.attempt_lists : s.attempt.lnk.lists = s.lnk.lists := sendJobs_lists _ s

@[simp] theorem State.examine_lists : s.examine.lnk.lists = s.lnk.lists := by
  simp only [State.examine]
  (repeat' split) <;> simp

@[simp] theorem State.examineNew_lists (had : Bool) : (s.examineNew had).lnk.lists = s.lnk.lists := by
  cases had <;> simp [State.examineNew]

@[simp] theorem State.queueJob_lnk (f : Frame) (charge : Bool) : (s.queueJob f charge).lnk = s.lnk := by
  simp only [State.queueJob, State.modFrame_lnk, State.modLbl_lnk]
  split <;> rfl

@[simp] theorem State.postMount_lists (roll frame : Nat) : (s.postMount roll frame).lnk.lists = s.lnk.lists := by
  simp only [State.postMount, State.appendEntry_lists]
  split <;> simp

@[simp] theorem State.framePrinted_lists (roll frame : Nat) : (s.framePrinted roll frame).lnk.lists = s.lnk.lists := by
  simp [State.framePrinted]

@[simp] theorem State.completeOldest_lists : s.completeOldest.lnk.lists = s.lnk.lists := by
  unfold State.completeOldest
  split
  · rfl
  · extract_lets charged t
    have ht : t.lnk.lists = s.lnk.lists := State.framePrinted_lists ..
    rw [State.removeSent, State.modLbl_lnk]
    split
    · rw [State.postMount_lists, ht]
    · exact ht

theorem completeMany_lists (n : Nat) (s : State) : (completeMany n s).lnk.lists = s.lnk.lists := by
  induction n generalizing s with
  | zero => rfl
  | succ n ih => rw [completeMany, ih, State.completeOldest_lists]

theorem handBackSlots_lnk (xs : List InFlight) (s : State) : (handBackSlots xs s).lnk = s.lnk := by
  induction xs generalizing s with
  | nil => rfl
  | cons x xs ih =>
    simp only [handBackSlots, List.foldl_cons] at ih ⊢
    rw [ih]
    split <;> simp

@[simp] theorem State.returnAll_lists : s.returnAll.lnk.lists = s.lnk.lists := by
  simp [State.returnAll, State.returnJobs, handBackSlots_lnk]

@[simp] theorem State.markRisk_lnk (xs : List InFlight) : (s.markRisk xs).lnk = s.lnk := by
  induction xs generalizing s with
  | nil => rfl
  | cons x xs ih => exact ih _

@[simp] theorem State.toHeld_lnk : s.toHeld.lnk = s.lnk := rfl

@[simp] theorem State.settleJobs_lists (named : Nat) : (s.settleJobs named).lnk.lists = s.lnk.lists := by
  unfold State.settleJobs
  (repeat' split) <;> simp [completeMany_lists]

@[simp] theorem State.printerDone_lists (seq : Nat) : (s.printerDone seq).lnk.lists = s.lnk.lists := by
  simp only [State.printerDone]
  split
  · split
    · rw [State.attempt_lists]
      split <;> simp
    · simp
  · rfl

@[simp] theorem State.printerFault_lists (code : PrinterCode) (named : Nat) :
    (s.printerFault code named).lnk.lists = s.lnk.lists := by
  unfold State.printerFault
  split <;> simp

@[simp] theorem State.printerReady_lists : s.printerReady.lnk.lists = s.lnk.lists := by
  unfold State.printerReady
  split <;> simp

@[simp] theorem State.sendAsk_lnk : s.sendAsk.lnk = s.lnk := rfl

@[simp] theorem State.printerTimedOut_lists : s.printerTimedOut.lnk.lists = s.lnk.lists := by
  simp only [State.printerTimedOut]
  split <;> simp

@[simp] theorem State.statusWaited_lists : s.statusWaited.lnk.lists = s.lnk.lists := by
  unfold State.statusWaited
  (repeat' split) <;> simp

@[simp] theorem State.setPrinter_lists (f : PrinterSetReq) : (s.setPrinter f).lnk.lists = s.lnk.lists := by
  simp only [State.setPrinter]
  split <;> simp

theorem State.act_lists (e : PrinterEvent) : (s.act e).lnk.lists = s.lnk.lists := by
  cases e <;> simp [State.act]

/-! ### Start-up notices (R203, R204) -/

@[simp] theorem State.raiseStart_lists (ls : List (List Notice)) : (s.raiseStart ls).lnk.lists = s.lnk.lists := by
  simp [State.raiseStart, State.raiseAll]

/-- The start-up notices join those of the LNK that a warm or stand reset comes up with. -/
theorem keepReset_lists (l : Lnk) (doors : PerStation Door) (ready : Bool) :
    (s.keepReset l doors ready).lnk.lists = l.lists := by
  obtain ⟨u, hu, hl⟩ := keepReset_eq l doors ready s
  rw [hu, State.raiseStart_lists, hl]

end

end Sys2Proof.Machine
end

section
/-! SUPPORT. LNK's reply list and notice queue under every request and every event, so under every step (R197, R200). -/

namespace Sys2Proof.Machine

/-! ### The requests (R197) -/

/-- The answer of a request leaves the reply list as it is, and the notice queue within its capacity where it was. -/
def ListsKept {α : Type} (owner : α → State → Answer) : Prop := ∀ f s, (owner f s).state.lnk.lists = s.lnk.lists

theorem Reads.listsKept {α : Type} {owner : α → State → Answer} (h : Reads owner) : ListsKept owner := fun f s => by
  rw [h f s]

theorem listsKept_atStation {α : Type} {n : α → Nat} {owner : α → Station → State → Answer}
    (h : ∀ f st s, (owner f st s).state.lnk.lists = s.lnk.lists) : ListsKept fun f s => atStation (n f) s (owner f) := by
  intro f s
  show (atStation (n f) s (owner f)).state.lnk.lists = s.lnk.lists
  unfold atStation
  split
  · rfl
  · exact h f _ s

theorem listsKept_orderOpen : ListsKept answerOrderOpen := by
  intro f s
  unfold answerOrderOpen
  (repeat' split) <;> simp

theorem listsKept_itemAdd : ListsKept answerItemAdd := by
  intro f s
  unfold answerItemAdd
  (repeat' split) <;> simp

theorem listsKept_orderSubmit : ListsKept answerOrderSubmit := by
  intro f s
  simp only [answerOrderSubmit]
  (repeat' split) <;> simp

theorem listsKept_hold : ListsKept answerHold := by
  intro f s
  simp only [answerHold]
  (repeat' split) <;> simp

theorem listsKept_release : ListsKept answerRelease := by
  intro f s
  unfold answerRelease
  (repeat' split) <;> simp

theorem listsKept_orderPriority : ListsKept answerOrderPriority := by
  intro f s
  unfold answerOrderPriority
  (repeat' split) <;> simp

theorem releaseKeeper_lists (id : Nat) (st : Station) (s : State) :
    (s.releaseKeeper id st).lnk.lists = s.lnk.lists := by
  unfold State.releaseKeeper
  (repeat' split) <;> simp

theorem listsKept_orderCancel : ListsKept answerOrderCancel := by
  intro f s
  simp only [answerOrderCancel]
  (repeat' split) <;> simp [releaseKeeper_lists]

theorem listsKept_placed : ListsKept answerPlaced := listsKept_atStation fun f st s => by
  split <;> simp [State.place]

theorem listsKept_inputTake : ListsKept answerInputTake := listsKept_atStation fun f st s => by simp

theorem listsKept_skipItem : ListsKept answerSkipItem := listsKept_atStation fun f st s => by
  split
  · dsimp only
    split <;> simp
  · rfl
  · rfl

theorem listsKept_abort : ListsKept answerAbort := listsKept_atStation fun f st s => by
  split <;> simp

theorem listsKept_genClear : ListsKept answerGenClear := by
  intro f s
  unfold answerGenClear
  (repeat' split) <;> simp

theorem listsKept_stockSet : ListsKept answerStockSet := by
  intro f s
  unfold answerStockSet
  (repeat' split) <;> simp

theorem listsKept_stockSetRemove : ListsKept answerStockSetRemove := by
  intro f s
  unfold answerStockSetRemove
  (repeat' split) <;> simp

theorem listsKept_load : ListsKept answerLoad := listsKept_atStation fun f st s => by
  (repeat' split) <;> simp

theorem listsKept_unloadEarly : ListsKept answerUnloadEarly := listsKept_atStation fun f st s => by
  (repeat' split) <;> simp

theorem listsKept_cull : ListsKept answerCull := by
  intro f s
  simp only [answerCull]
  (repeat' split) <;> simp

theorem listsKept_closeRoll : ListsKept answerCloseRoll := by
  have hfree (ids : List Nat) (s : State) : (ids.foldl (fun t id => t.freeOrder id) s).lnk = s.lnk := by
    induction ids generalizing s with
    | nil => rfl
    | cons id ids ih => rw [List.foldl_cons, ih, State.freeOrder_lnk]
  intro f s
  unfold answerCloseRoll
  split
  · rfl
  · split
    · rfl
    · split
      · rfl
      · split
        · rfl
        · exact congrArg Lnk.lists (hfree _ (s.freeRoll f.roll))

theorem listsKept_confirmRoll : ListsKept answerConfirmRoll := listsKept_atStation fun f st s => by
  (repeat' split) <;> simp

theorem listsKept_declareUnloaded : ListsKept answerDeclareUnloaded := listsKept_atStation fun f st s => by
  split
  · rfl
  · dsimp only
    split <;> simp

theorem listsKept_tariffSet : ListsKept answerTariffSet := by
  intro f s
  unfold answerTariffSet
  split <;> simp

theorem listsKept_accountSet : ListsKept answerAccountSet := by
  intro f s
  unfold answerAccountSet
  (repeat' split) <;> simp

theorem listsKept_accountClear : ListsKept answerAccountClear := by
  intro f s
  unfold answerAccountClear
  (repeat' split) <;> simp

theorem listsKept_adjust : ListsKept answerAdjust := by
  intro f s
  simp only [answerAdjust]
  (repeat' split) <;> simp

theorem listsKept_journalRelease : ListsKept answerJournalRelease := by
  intro f s
  simp only [answerJournalRelease]
  (repeat' split) <;> simp

theorem listsKept_clockSet : ListsKept answerClockSet := by
  intro f s
  unfold answerClockSet
  split <;> simp

theorem listsKept_labelRoll : ListsKept answerLabelRoll := by
  have hqueue (now : List Frame) (s : State) : (now.foldl (fun t x => t.queueJob x true) s).lnk = s.lnk := by
    induction now generalizing s with
    | nil => rfl
    | cons x now ih => rw [List.foldl_cons, ih, State.queueJob_lnk]
  intro f s
  simp only [answerLabelRoll]
  (repeat' split) <;> simp [hqueue]

theorem listsKept_labelFrame : ListsKept answerLabelFrame := by
  intro f s
  unfold answerLabelFrame
  (repeat' split) <;> simp

theorem listsKept_labelCancel : ListsKept answerLabelCancel := by
  intro f s
  simp only [answerLabelCancel]
  (repeat' split) <;> simp [State.cancelJobs]

theorem listsKept_templateLoad : ListsKept answerTemplateLoad := by
  intro f s
  simp only [answerTemplateLoad]
  (repeat' split) <;> simp

theorem listsKept_templateLock : ListsKept answerTemplateLock := by
  intro f s
  simp only [answerTemplateLock]
  (repeat' split) <;> simp

theorem listsKept_templateUnlock : ListsKept answerTemplateUnlock := by
  intro f s
  unfold answerTemplateUnlock
  (repeat' split) <;> simp

theorem listsKept_templateDrop : ListsKept answerTemplateDrop := by
  intro f s
  unfold answerTemplateDrop
  (repeat' split) <;> simp

theorem listsKept_printerSet : ListsKept answerPrinterSet := by
  intro f s
  simp only [answerPrinterSet]
  (repeat' split) <;> simp

theorem listsKept_printerStatus : ListsKept answerPrinterStatus := by
  intro f s
  simp only [answerPrinterStatus, taken_state]
  split <;> simp

theorem listsKept_faultClear : ListsKept answerFaultClear := by
  intro f s
  unfold answerFaultClear
  split
  · rfl
  · split
    · rfl
    · simp only [taken_state, State.recoverUnit]
      split <;> simp

theorem listsKept_status : ListsKept answerStatus := fun _ _ => rfl

/-- START stands first, and with the notices behind it the queue holds 32 at most (R203). -/
theorem standReset_lists {s : State} (h : LinkBounded s) : s.standReset.lnk.lists = s.lnk.lists := by
  obtain ⟨-, hnotices⟩ := (linkBounded_iff s).mp h
  rw [State.standReset, keepReset_lists, Prod.ext_iff, hnotices]
  refine ⟨rfl, List.drop_eq_nil_of_le ?_⟩
  simp [Lnk.standReset, Config.maxNotices]

/-! ### Requests as LNK takes them (R197) -/

section

variable {s t : State}

theorem LinkBounded.of_lists (h : LinkBounded s) (e : t.lnk.lists = s.lnk.lists) : LinkBounded t := by
  rw [linkBounded_iff, e]
  exact (linkBounded_iff s).mp h

theorem LinkBounded.transmit (h : LinkBounded s) : LinkBounded s.transmit := by
  obtain ⟨hreplies, hnotices⟩ := h
  rcases transmit_cases s with e | ⟨r, rest, -, hr, e⟩ | ⟨n, rest, -, -, hn, e⟩
  · exact e.symm ▸ ⟨hreplies, hnotices⟩
  · rw [hr] at hreplies
    exact e.symm ▸ ⟨Nat.le_of_succ_le hreplies, hnotices⟩
  · rw [hn] at hnotices
    exact e.symm ▸ ⟨hreplies, Nat.le_of_succ_le hnotices⟩

/-- A reply is placed below the capacity of the list alone (R197). -/
theorem LinkBounded.takeRequest {kind tag : Byte} {answer : State → Answer} (h : LinkBounded s)
    (ha : ∀ s, LinkBounded s → (answer s).state.lnk.lists = s.lnk.lists) :
    LinkBounded (takeRequest kind tag answer s) := by
  have htaken : LinkBounded s.frameTaken := h
  simp only [Machine.takeRequest]
  split
  · exact htaken
  · split
    · exact htaken
    · next hroom =>
      have hlists := ha _ htaken
      obtain ⟨-, hnotices⟩ := htaken.of_lists hlists
      refine ⟨?_, hnotices⟩
      have hreplies : (answer s.frameTaken).state.lnk.replies = s.frameTaken.lnk.replies := congrArg Prod.fst hlists
      simp only [State.placeReply, State.modLnk_lnk, List.length_append, List.length_singleton, hreplies]
      exact Nat.not_le.mp hroom

theorem LinkBounded.takePayload {α : Type} {kind : RequestKind} {tag : Byte} {p : Payload α}
    {owner : α → State → Answer} (h : LinkBounded s) (ho : ListsKept owner) :
    LinkBounded (takePayload kind tag p owner s) :=
  h.takeRequest fun t _ => by
    cases p with
    | fields f => exact ho f t
    | malformed => rfl

theorem LinkBounded.takeCommand {c : Instr} (h : LinkBounded s) : LinkBounded (s.takeCommand c) := by
  cases c with
  | orderOpen => exact h.takePayload listsKept_orderOpen
  | itemAdd => exact h.takePayload listsKept_itemAdd
  | stationSet => exact h.takePayload fun f s => congrArg Lnk.lists (stationSet_lnk f s)
  | orderSubmit => exact h.takePayload listsKept_orderSubmit
  | hold => exact h.takePayload listsKept_hold
  | release => exact h.takePayload listsKept_release
  | orderPriority => exact h.takePayload listsKept_orderPriority
  | orderCancel => exact h.takePayload listsKept_orderCancel
  | placed => exact h.takePayload listsKept_placed
  | inputTake => exact h.takePayload listsKept_inputTake
  | skipItem => exact h.takePayload listsKept_skipItem
  | abort => exact h.takePayload listsKept_abort
  | genClear => exact h.takePayload listsKept_genClear
  | stockSet => exact h.takePayload listsKept_stockSet
  | stockSetRemove => exact h.takePayload listsKept_stockSetRemove
  | load => exact h.takePayload listsKept_load
  | unloadEarly => exact h.takePayload listsKept_unloadEarly
  | cull => exact h.takePayload listsKept_cull
  | closeRoll => exact h.takePayload listsKept_closeRoll
  | confirmRoll => exact h.takePayload listsKept_confirmRoll
  | declareUnloaded => exact h.takePayload listsKept_declareUnloaded
  | tariffSet => exact h.takePayload listsKept_tariffSet
  | accountSet => exact h.takePayload listsKept_accountSet
  | accountClear => exact h.takePayload listsKept_accountClear
  | adjust => exact h.takePayload listsKept_adjust
  | journalRelease => exact h.takePayload listsKept_journalRelease
  | clockSet => exact h.takePayload listsKept_clockSet
  | labelRoll => exact h.takePayload listsKept_labelRoll
  | labelFrame => exact h.takePayload listsKept_labelFrame
  | labelCancel => exact h.takePayload listsKept_labelCancel
  | templateLoad => exact h.takePayload listsKept_templateLoad
  | templateLock => exact h.takePayload listsKept_templateLock
  | templateUnlock => exact h.takePayload listsKept_templateUnlock
  | templateDrop => exact h.takePayload listsKept_templateDrop
  | printerSet => exact h.takePayload listsKept_printerSet
  | printerStatus => exact h.takePayload listsKept_printerStatus
  | faultClear => exact h.takePayload listsKept_faultClear
  | status => exact h.takePayload listsKept_status
  | standReset _ p => exact h.takeRequest fun t ht => by cases p with
    | fields => exact standReset_lists ht
    | malformed => rfl
  | orderRead => exact h.takePayload reads_orderRead.listsKept
  | itemRead => exact h.takePayload reads_itemRead.listsKept
  | stationRead => exact h.takePayload reads_stationRead.listsKept
  | planQueryDirect => exact h.takePayload reads_planQueryDirect.listsKept
  | planQueryStation => exact h.takePayload reads_planQueryStation.listsKept
  | planQueryItem => exact h.takePayload reads_planQueryItem.listsKept
  | genRead => exact h.takePayload reads_genRead.listsKept
  | stockRead => exact h.takePayload reads_stockRead.listsKept
  | frameRead => exact h.takePayload reads_frameRead.listsKept
  | tariffRead => exact h.takePayload reads_tariffRead.listsKept
  | accountRead => exact h.takePayload reads_accountRead.listsKept
  | journalRead => exact h.takePayload reads_journalRead.listsKept
  | clockRead => exact h.takePayload reads_clockRead.listsKept
  | labelRead => exact h.takePayload reads_labelRead.listsKept
  | templateRead => exact h.takePayload reads_templateRead.listsKept
  | faultRead => exact h.takePayload reads_faultRead.listsKept
  | ident => exact h.takePayload reads_ident.listsKept
  | unknownKind => exact h.takeRequest fun _ _ => rfl
  | _ => exact h

/-! ### The characters of the two lines (R170, R196) -/

theorem LinkBounded.hearHost (cs : List HostChar) (h : LinkBounded s) : LinkBounded (s.hearHost cs) := by
  induction cs generalizing s with
  | nil => exact h
  | cons c cs ih =>
    refine ih ?_
    have hreceived : LinkBounded (s.receive (s.lnk.receiver.take c).1) := h
    unfold State.takeReceived
    split
    · split
      · exact hreceived
      · exact .transmit hreceived.takeCommand
    · exact hreceived
    · exact hreceived

theorem LinkBounded.judged (got : PrinterGot) (h : LinkBounded s) : LinkBounded (s.judged got) := by
  cases got with
  | nothing => exact h
  | bad => exact .transmit <| h.of_lists (State.capture_lists ..)
  | good e => exact .transmit <| h.of_lists (State.act_lists ..)

theorem LinkBounded.hear (cs : List PrinterChar) (h : LinkBounded s) : LinkBounded (s.hear cs) := by
  have hj (gots : List PrinterGot) {s : State} (h : LinkBounded s) : LinkBounded (gots.foldl State.judged s) := by
    induction gots generalizing s with
    | nil => exact h
    | cons g gots ih => exact ih (h.judged g)
  unfold State.hear
  split
  · exact h
  · exact hj _ (h.of_lists rfl)

end

/-! ### The events -/

theorem readyRises_lists (s : State) : s.readyRises.lnk.lists = s.lnk.lists := by
  simp only [State.readyRises]
  split
  · simp only [State.charged]
    split
    · rfl
    · rfl
    · simp
  · rfl

theorem readyFalls_lists (s : State) : s.readyFalls.lnk.lists = s.lnk.lists := by
  simp only [State.readyFalls]
  split <;> simp

theorem afterFiring_lists {act : Station → State → State} (ha : ∀ st, KeepsLists (act st)) (s : State) :
    (s.afterFiring act).lnk.lists = s.lnk.lists := by
  unfold State.afterFiring
  split
  · exact State.popReport_lists _ _ (ha _)
  · simp

theorem flashReported_lists (s : State) : s.flashReported.lnk.lists = s.lnk.lists := by
  unfold State.flashReported
  split
  · exact afterFiring_lists (fun st s => s.confirmPop_lists st) _
  · rfl

theorem windowExpired_lists (s : State) : s.windowExpired.lnk.lists = s.lnk.lists := by
  unfold State.windowExpired
  split
  · exact afterFiring_lists (fun st s => s.misfire_lists st) _
  · rfl

theorem chargeTimedOut_lists (s : State) : s.chargeTimedOut.lnk.lists = s.lnk.lists := by
  unfold State.chargeTimedOut
  split <;> simp

theorem idleExpired_lists (s : State) : s.idleExpired.lnk.lists = s.lnk.lists := by
  unfold State.idleExpired
  (repeat' split) <;> simp

theorem cooled_lists (s : State) : s.cooled.lnk.lists = s.lnk.lists := by simp [State.cooled]

theorem minutePassed_lists (s : State) : s.minutePassed.lnk.lists = s.lnk.lists := by
  unfold State.minutePassed
  split <;> simp

theorem gapExpired_lists (s : State) : s.gapExpired.lnk.lists = s.lnk.lists := by
  unfold State.gapExpired
  split <;> rfl

theorem footEdge_lists (st : Station) (edge : Edge) (s : State) : (s.footEdge st edge).lnk.lists = s.lnk.lists := by
  simp only [State.footEdge]
  (repeat' split) <;> simp [State.place]

theorem pulse_lists (st : Station) (s : State) : (s.pulse st).lnk.lists = s.lnk.lists := by
  simp only [State.pulse]
  (repeat' split) <;> simp

theorem advanceTimedOut_lists (st : Station) (s : State) : (s.advanceTimedOut st).lnk.lists = s.lnk.lists := by
  unfold State.advanceTimedOut
  split <;> simp

theorem endSensed_lists (st : Station) (s : State) : (s.endSensed st).lnk.lists = s.lnk.lists := by
  unfold State.endSensed
  split <;> simp

theorem rewound_lists (st : Station) (s : State) : (s.rewound st).lnk.lists = s.lnk.lists := by
  simp only [State.rewound]
  (repeat' split) <;> simp

theorem rewindTimedOut_lists (st : Station) (s : State) : (s.rewindTimedOut st).lnk.lists = s.lnk.lists := by
  simp only [State.rewindTimedOut]
  split <;> simp

theorem askSlotAgain_lists (st : Station) (s : State) : (s.askSlotAgain st).lnk.lists = s.lnk.lists := by
  simp only [State.askSlotAgain]
  (repeat' split) <;> simp

theorem attemptAgain_lists (s : State) : s.attemptAgain.lnk.lists = s.lnk.lists := by
  unfold State.attemptAgain
  split <;> simp

/-- A reset leaves no reply, and START with the start-up notices of the blocks (R203, R204). -/
theorem resetBy_linkBounded (pins : ResetPins) (s : State) : LinkBounded (s.resetBy pins) := by
  unfold State.resetBy
  split
  · rw [linkBounded_iff, State.warmReset, keepReset_lists]
    exact ⟨Nat.zero_le _, rfl⟩
  · rw [linkBounded_iff, State.coldReset, State.raiseStart_lists]
    exact ⟨Nat.zero_le _, rfl⟩

/-! ### Every command and every step -/

/-- What keeps the reply list and the notice queue within their capacities. -/
def KeepsLink (f : State → State) : Prop := ∀ {s : State}, LinkBounded s → LinkBounded (f s)

theorem KeepsLists.keepsLink {f : State → State} (hf : KeepsLists f) : KeepsLink f := fun h => h.of_lists (hf _)

/-- Every command is an event that keeps the lists within their capacities. -/
theorem exec_keepsLink (c : Instr) (s : State) : ∃ f, exec c s = event f s ∧ KeepsLink f := by
  cases c with
  | hostBadFrame chars => exact ⟨_, rfl, .hearHost chars⟩
  | unknownKind tag kind =>
    obtain ⟨c, -, he⟩ := execUnknownKind_eq tag kind s
    exact ⟨_, he, .takeCommand⟩
  | interByteGap => exact ⟨_, rfl, KeepsLists.keepsLink gapExpired_lists⟩
  | frameSent => exact ⟨_, rfl, id⟩
  | reset pins => exact ⟨_, rfl, fun _ => resetBy_linkBounded pins _⟩
  | footSwitchEdge st edge => exact ⟨_, rfl, KeepsLists.keepsLink (footEdge_lists st edge)⟩
  | doorOpened st => exact ⟨_, rfl, KeepsLists.keepsLink fun s => s.doorOpen_lists st⟩
  | doorClosed => exact ⟨_, rfl, id⟩
  | sprocketPulse st => exact ⟨_, rfl, KeepsLists.keepsLink (pulse_lists st)⟩
  | advanceTimeout st => exact ⟨_, rfl, KeepsLists.keepsLink (advanceTimedOut_lists st)⟩
  | endOfFilmSensor st => exact ⟨_, rfl, KeepsLists.keepsLink (endSensed_lists st)⟩
  | rewindDone st => exact ⟨_, rfl, KeepsLists.keepsLink (rewound_lists st)⟩
  | rewindTimerExpiry st => exact ⟨_, rfl, KeepsLists.keepsLink (rewindTimedOut_lists st)⟩
  | readyInputRise => exact ⟨_, rfl, KeepsLists.keepsLink readyRises_lists⟩
  | readyInputFall => exact ⟨_, rfl, KeepsLists.keepsLink readyFalls_lists⟩
  | flashSensorReport => exact ⟨_, rfl, KeepsLists.keepsLink flashReported_lists⟩
  | flashConfirmWindowExpiry => exact ⟨_, rfl, KeepsLists.keepsLink windowExpired_lists⟩
  | chargeTimerExpiry => exact ⟨_, rfl, KeepsLists.keepsLink chargeTimedOut_lists⟩
  | idleDischarge => exact ⟨_, rfl, KeepsLists.keepsLink idleExpired_lists⟩
  | cooling => exact ⟨_, rfl, KeepsLists.keepsLink cooled_lists⟩
  | minuteTimerExpiry => exact ⟨_, rfl, KeepsLists.keepsLink minutePassed_lists⟩
  | printerDone => exact ⟨_, rfl, .hear _⟩
  | printerFault => exact ⟨_, rfl, .hear _⟩
  | printerReady => exact ⟨_, rfl, .hear _⟩
  | badFrame => exact ⟨_, rfl, .hear _⟩
  | printerTimerExpiry => exact ⟨_, rfl, KeepsLists.keepsLink State.printerTimedOut_lists⟩
  | statusWaitExpiry => exact ⟨_, rfl, KeepsLists.keepsLink State.statusWaited_lists⟩
  | stationSlotRequest st => exact ⟨_, rfl, KeepsLists.keepsLink (askSlotAgain_lists st)⟩
  | printerSlotRequest => exact ⟨_, rfl, KeepsLists.keepsLink attemptAgain_lists⟩
  | _ => exact ⟨_, exec_request rfl (by simp) s, .takeCommand⟩

theorem LinkBounded.exec {c : Instr} {s t : State} (h : LinkBounded s) (e : exec c s = .next t) : LinkBounded t := by
  obtain ⟨f, hf, hk⟩ := exec_keepsLink c s
  rw [hf] at e
  cases e
  exact .transmit (hk (s := s.begun) h)

/-- Settles O10: the empty queue changes nothing, and every command is an event that keeps the capacities. -/
theorem linkListsStayBounded : Obligations.LinkListsStayBounded := by
  intro s t h e
  unfold step at e
  split at e
  · cases e
    exact h
  · next c rest _ => exact LinkBounded.exec (s := { s with pending := rest }) h e

end Sys2Proof.Machine
end

section
/-! SUPPORT. The receiver, the transmitter and the requests of LNK: the characters of the host line, the frames discarded and
the frames answered without their owner, IDENT and STATUS (R196, R197, R199 to R201). -/

namespace Sys2Proof.Machine

/-! ### The receiver and its gap timer (R196) -/

/-- The gap timer runs exactly while a frame is being collected. -/
theorem receive_eq (r : Receiver) (s : State) : s.receive r =
    { s with lnk := { s.lnk with receiver := r, gapTimer := if r = .hunting then none else some 50 } } := by
  cases r with
  | hunting => rfl
  | collecting bytes => simp [State.receive, State.modLnk, Config.gapTimeout]

/-- Settles O5: `hearHost_no_request` for the characters that complete no request, and the receiver's definition else. -/
theorem badFramesTouchReceiverAlone : Obligations.BadFramesTouchReceiverAlone := by
  refine ⟨?_, fun _ _ => rfl, fun _ => rfl, ?_, fun c tag s ht hk => exec_request ht hk s, fun s => ?_⟩
  · intro cs s hne r gots h
    have hheard : s.begun.hearHost cs = s.begun.receive r := hearHost_no_request cs s.begun hne h
    rw [receive_eq] at hheard
    exact congrArg (fun t => Host.Outcome.next (State.transmit t)) hheard
  · intro c cs s r u
    have hu : s.receive r = u := receive_eq r s
    change State.hearHost cs ((s.receive r).takeReceived _) = _
    rw [hu]
    cases (s.lnk.receiver.take c).2 <;> rfl
  · refine congrArg (fun t => Host.Outcome.next (State.transmit t)) ?_
    change (if s.lnk.gapTimer.isSome then s.begun.receive .hunting else s.begun) = _
    rfl

/-! ### Frames discarded, and frames answered without their owner (R197) -/

theorem takePayload_takesRequest {α : Type} (kind : RequestKind) (tag : Byte) (p : Payload α)
    (owner : α → State → Answer) :
    ∃ k answer, ∀ s : State, takePayload kind tag p owner s = takeRequest k tag answer s := ⟨_, _, fun _ => rfl⟩

/-- A request command is a frame of its tag that LNK takes (R197). -/
theorem takeCommand_takesRequest {c : Instr} {tag : Byte} (h : requestTag? c = some tag) :
    ∃ kind answer, ∀ s : State, s.takeCommand c = takeRequest kind tag answer s := by
  cases c with
  | hostBadFrame | interByteGap | frameSent | reset | footSwitchEdge | doorOpened | doorClosed | sprocketPulse
  | advanceTimeout | endOfFilmSensor | rewindDone | rewindTimerExpiry | readyInputRise | readyInputFall
  | flashSensorReport | flashConfirmWindowExpiry | chargeTimerExpiry | idleDischarge | cooling | minuteTimerExpiry
  | printerDone | printerFault | printerReady | badFrame | printerTimerExpiry | statusWaitExpiry | stationSlotRequest
  | printerSlotRequest => cases h
  | unknownKind t kind => cases h; exact ⟨kind, fun t => refuse t .unknownKind, fun _ => rfl⟩
  | _ => cases h; exact takePayload_takesRequest ..

/-- The command that a frame spells carries the frame's tag. -/
theorem requestTag_decodeRequest (kind tag : Byte) (payload : List Byte) :
    requestTag? (decodeRequest kind tag payload) = some tag := by
  unfold decodeRequest
  split
  case h_16 => split <;> [rfl; split <;> rfl]
  case h_19 => split <;> rfl
  all_goals rfl

theorem exec_takesRequest {c : Instr} {tag : Byte} (h : requestTag? c = some tag) (s : State) :
    ∃ kind answer, exec c s = .next (takeRequest kind tag answer s.begun).transmit := by
  by_cases hk : ∃ t k, c = .unknownKind t k
  · obtain ⟨t, kind, rfl⟩ := hk
    cases h
    change ∃ k answer, execUnknownKind tag kind s = _
    unfold execUnknownKind
    split
    · obtain ⟨k, answer, ht⟩ := takeCommand_takesRequest (requestTag_decodeRequest kind tag [])
      exact ⟨k, answer, by rw [event_eq, ht]⟩
    · exact ⟨_, _, rfl⟩
  · obtain ⟨k, answer, ht⟩ := takeCommand_takesRequest h
    exact ⟨k, answer, by rw [exec_request h (fun t k e => hk ⟨t, k, e⟩), event_eq, ht]⟩

/-- Settles O2: `takeRequest` discards before it asks any owner. -/
theorem discardedRequestsTouchNoBlock : Obligations.DiscardedRequestsTouchNoBlock := by
  intro c tag s ht
  obtain ⟨kind, answer, he⟩ := exec_takesRequest ht s
  refine ⟨fun h0 => ?_, fun h0 hfull => ?_⟩
  · rw [Does, he, takeRequest, if_pos h0]
    rfl
  · rw [Does, he, takeRequest, if_neg h0]
    exact congrArg (fun t => Host.Outcome.next (State.transmit t)) (if_pos hfull)

/-- Only a kind that names no request is the frame of UNKNOWN_KIND. -/
theorem decodeRequest_ne_unknownKind {kind : Byte} (h : namesRequest kind = true) (tag : Byte) (payload : List Byte)
    (t k : Byte) : decodeRequest kind tag payload ≠ .unknownKind t k := by
  have hrange : 1 ≤ kind.toNat ∧ kind.toNat ≤ 53 := of_decide_eq_true h
  unfold decodeRequest
  split
  case h_16 => split <;> [nofun; split <;> nofun]
  case h_19 => split <;> nofun
  case h_54 => simp only [imp_false] at *; omega
  all_goals nofun

/-- No owner is asked about a malformed payload. -/
theorem malformed_refused {c : Instr} {kind : RequestKind} {tag : Byte} {s : State}
    (h : malformedKind? c = some (kind, tag)) (ha : Accepts tag s) : Refuses c s tag kind .badField .nothing := by
  unfold malformedKind? at h
  split at h <;> cases h <;> exact request_malformed _ _ _ s ha

/-- Settles O3: every malformed payload by `request_malformed`, and UNKNOWN_KIND by whether its kind names a request. -/
theorem unknownKindAndMalformedPayloadAnswered : Obligations.UnknownKindAndMalformedPayloadAnswered := by
  refine ⟨fun c kind tag s => malformed_refused, fun tag kind s => ?_⟩
  split
  · next hk =>
    have hrequest : exec (decodeRequest kind tag []) s = event (State.takeCommand (decodeRequest kind tag [])) s :=
      exec_request (requestTag_decodeRequest kind tag []) (decodeRequest_ne_unknownKind hk tag []) s
    exact (if_pos hk).trans hrequest.symm
  · next hk =>
    rintro ⟨htag, hroom⟩
    have hunknown : exec (.unknownKind tag kind) s = event (takeRequest kind tag fun t => refuse t .unknownKind) s :=
      if_neg hk
    rw [Answers, hunknown, event_eq, takeRequest, if_neg htag]
    exact congrArg (fun t => Host.Outcome.next (State.transmit t)) (if_neg (Nat.not_le.mpr hroom))

/-! ### The transmitter and the notice queue (R199, R200) -/

section

variable {s : State}

theorem transmit_of_reply {r : Reply} {rest : List Reply} (ht : s.lnk.transmitter = none)
    (hr : s.lnk.replies = r :: rest) : s.transmit =
      { s with lnk := { s.lnk with transmitter := some (.reply r), replies := rest }
               outputs := s.outputs ++ [.hostFrame (OutFrame.reply r).bytes] } := by
  simp [State.transmit, Lnk.begun, Lnk.begunOutputs, Lnk.begins, Lnk.choice, ht, hr]

theorem transmit_of_notice {n : Notice} {rest : List Notice} (ht : s.lnk.transmitter = none) (hr : s.lnk.replies = [])
    (hn : s.lnk.notices = n :: rest) : s.transmit =
      { s with lnk := { s.lnk with transmitter := some (.notice n), notices := rest }
               outputs := s.outputs ++ [.hostFrame (OutFrame.notice n).bytes] } := by
  simp [State.transmit, Lnk.begun, Lnk.begunOutputs, Lnk.begins, Lnk.choice, ht, hr, hn]

theorem transmit_of_empty (hr : s.lnk.replies = []) (hn : s.lnk.notices = []) : s.transmit = s := by
  rcases transmit_cases s with h | ⟨r, rest, -, hr', -⟩ | ⟨n, rest, -, -, hn', -⟩
  · exact h
  · cases hr.symm.trans hr'
  · cases hn.symm.trans hn'

end

/-- Settles O6: the free transmitter's choice by which of the two lists is empty, and `raise_cases`. -/
theorem repliesGoFirstAndNoticesQueue : Obligations.RepliesGoFirstAndNoticesQueue := by
  refine ⟨fun s => ?_, fun n s => ?_⟩
  · refine congrArg Host.Outcome.next (a₁ := s.begun.frameSent.transmit) ?_
    cases hr : s.lnk.replies with
    | cons r rs => exact transmit_of_reply (s := s.begun.frameSent) rfl hr
    | nil =>
      cases hn : s.lnk.notices with
      | cons n ns => exact transmit_of_notice (s := s.begun.frameSent) rfl hr hn
      | nil => exact transmit_of_empty (s := s.begun.frameSent) hr hn
  · rcases raise_cases n s with ⟨hroom, h⟩ | ⟨hfull, h⟩
    · rw [h, if_pos hroom]
    · rw [h, if_neg (Nat.not_lt.mpr hfull)]

/-! ### IDENT and STATUS (R201) -/

/-- Settles O7: the answers of the two owners, in the state in which LNK finds the part. -/
theorem identAndStatusAnswered : Obligations.IdentAndStatusAnswered :=
  fun _ _ ha => ⟨request_answers ha rfl, request_answers ha rfl⟩

end Sys2Proof.Machine
end

section
/-! SUPPORT. The frames of the host link: the receiver reads back the frame that the encoder makes, and what the part sends is
such a frame (R195, R196, R198). -/

namespace Sys2Proof

/-! ### A frame is received (R195, R196) -/

theorem length_crcBytes (bs : List Byte) : (crcBytes bs).length = 2 := rfl

/-- A body followed by its CRC is a good frame. -/
theorem judgeFrame_crc (len kind tag : Byte) (payload : List Byte) :
    judgeFrame (len :: kind :: tag :: payload ++ crcBytes (len :: kind :: tag :: payload)) =
      .good { kind := kind, tag := tag, payload := payload } := by
  generalize hb : len :: kind :: tag :: payload = body
  have hlen : (body ++ crcBytes body).length - 2 = body.length := by simp [length_crcBytes]
  simp only [judgeFrame, hlen, List.drop_left, List.take_left, if_true]
  rw [← hb]

/-- The bytes still to come of a frame that has begun: the last one has it judged, and no other ends a frame. -/
theorem collecting_takes_rest {len : Byte} (hlen : 2 ≤ len.toNat ∧ len.toNat ≤ 250) (rest : List Byte) (b : Byte)
    (bs all : List Byte) (hall : bs ++ rest ++ [b] = len :: all) (hcount : all.length = len.toNat + 2) :
    (Receiver.collecting bs).takeAll ((rest ++ [b]).map HostChar.byte) =
      (.hunting, List.replicate rest.length .nothing ++ [judgeFrame (len :: all)]) := by
  have hrange : ¬ (len.toNat < 2 ∨ 250 < len.toNat) := by omega
  induction rest generalizing bs with
  | nil =>
    have hbytes : bs ++ [b] = len :: all := by simpa using hall
    have htake : (Receiver.collecting bs).take (.byte b) = (.hunting, judgeFrame (len :: all)) := by
      simp only [Receiver.take, hbytes]
      rw [if_neg hrange, if_pos (by simp [hcount])]
    simp [Receiver.takeAll, htake]
  | cons c rest ih =>
    have hbytes : (bs ++ [c]) ++ rest ++ [b] = len :: all := by simpa using hall
    obtain ⟨more, hmore⟩ : ∃ more, bs ++ [c] = len :: more := by
      cases bs with
      | nil => exact ⟨[], by simp at hall; rw [hall.1]; rfl⟩
      | cons d ds => exact ⟨ds ++ [c], by simp at hall; rw [hall.1]; rfl⟩
    have hshort : ¬ (len :: more).length = len.toNat + 3 := by
      have := congrArg List.length hbytes
      rw [hmore] at this
      simp at this ⊢
      omega
    have htake : (Receiver.collecting bs).take (.byte c) = (.collecting (bs ++ [c]), .nothing) := by
      simp only [Receiver.take, hmore]
      rw [if_neg hrange, if_neg hshort]
    simp only [List.cons_append, List.map_cons, Receiver.takeAll, htake, ih (bs ++ [c]) hbytes, List.length_cons,
      List.replicate_succ, List.cons_append]

/-- A hunting receiver takes a whole frame. -/
theorem hunting_takes_hostFrame {kind tag : Byte} {payload : List Byte} (h : payload.length ≤ 248) :
    Receiver.hunting.takeAll ((hostFrame kind tag payload).map HostChar.byte) =
      (.hunting, List.replicate (payload.length + 5) .nothing ++
        [.good { kind := kind, tag := tag, payload := payload }]) := by
  generalize hlen : BitVec.ofNat 8 (payload.length + 2) = len
  have hn : len.toNat = payload.length + 2 := by
    rw [← hlen, BitVec.toNat_ofNat]
    omega
  let body := len :: kind :: tag :: payload
  have hframe : hostFrame kind tag payload =
      0xA5 :: ((body ++ [(crc16 body).extractLsb' 8 8]) ++ [(crc16 body).extractLsb' 0 8]) := by
    simp [hostFrame, hlen, body, crcBytes]
  have hrest := collecting_takes_rest (len := len) (by omega) (body ++ [(crc16 body).extractLsb' 8 8])
    ((crc16 body).extractLsb' 0 8) [] (kind :: tag :: payload ++ crcBytes body) (by simp [body, crcBytes])
    (by simp [length_crcBytes, hn])
  have hjudged : judgeFrame (len :: (kind :: tag :: payload ++ crcBytes body)) = _ :=
    judgeFrame_crc len kind tag payload
  rw [hjudged] at hrest
  rw [hframe, List.map_cons, Receiver.takeAll]
  simp only [Receiver.take, if_true, hrest]
  simp [body, List.replicate_succ]

end Sys2Proof

namespace Sys2Proof.Machine

/-! ### The frames that the part sends (R195, R198) -/

/-- Fields stand in a frame as they are where they fit; where they do not, what stands there fits (log entry 29). -/
theorem fitted_fits (n : Nat) (bs : List Byte) : (fitted n bs).length ≤ n ∧ (bs.length ≤ n → fitted n bs = bs) := by
  unfold fitted
  split
  · next h => exact ⟨h, fun _ => rfl⟩
  · next h => exact ⟨List.length_take_le .., fun hfit => absurd hfit h⟩

/-- Settles O8: the receiver by `hunting_takes_hostFrame`, the frames sent by `fitted_fits`. -/
theorem hostFrameIsReceived : Obligations.HostFrameIsReceived := by
  refine ⟨fun kind tag payload h => ?_, fun r => ?_, fun n => ?_⟩
  · rw [hunting_takes_hostFrame h]
    exact ⟨rfl, rfl⟩
  · obtain ⟨hlen, hfit⟩ := fitted_fits 247 r.body.bytes
    exact ⟨_, hlen, rfl, hfit⟩
  · obtain ⟨hlen, hfit⟩ := fitted_fits 248 n.bytes
    exact ⟨_, hlen, rfl, hfit⟩

end Sys2Proof.Machine
end

section
/-! SUPPORT. The encoding of the requests: every field is read back from its bytes, so every request from its payload (R195,
R202, log entry 12). -/

namespace Sys2Proof

/-! ### The fields of a payload (R195) -/

section

variable {α : Type}

/-- A reader takes a field from the front of the bytes, and leaves what follows it. -/
def ReadsBack (get : Reader α) (bs : List Byte) (a : α) : Prop := ∀ rest, get (bs ++ rest) = some (a, rest)

@[simp] theorem length_putNat (w n : Nat) : (putNat w n).length = w := by
  induction w with
  | zero => rfl
  | succ w ih => rw [putNat, List.length_cons, ih]

/-- Each byte put is the next digit to base 256. -/
theorem foldl_putNat (w n k : Nat) :
    (putNat w n).foldl (fun n b => 256 * n + b.toNat) k = k * 256 ^ w + n % 256 ^ w := by
  induction w generalizing k with
  | zero => simp [putNat, Nat.mod_one]
  | succ w ih =>
    rw [putNat, List.foldl_cons, ih, BitVec.toNat_ofNat, Nat.mod_pow_succ (b := 256) (k := w)]
    ring

theorem natOfBytes_putNat {w n : Nat} (h : fitsNat w n) : natOfBytes (putNat w n) = n := by
  rw [natOfBytes, foldl_putNat, Nat.mod_eq_of_lt h, Nat.zero_mul, Nat.zero_add]

theorem getNat_putNat {w n : Nat} (h : fitsNat w n) : ReadsBack (getNat w) (putNat w n) n := by
  intro rest
  have htake : (putNat w n ++ rest).take w = putNat w n := List.take_left' (length_putNat w n)
  have hdrop : (putNat w n ++ rest).drop w = rest := List.drop_left' (length_putNat w n)
  rw [getNat, if_neg (by simp [length_putNat]), htake, hdrop, natOfBytes_putNat h]

@[simp] theorem length_putInt (w : Nat) (z : Int) : (putInt w z).length = w := length_putNat ..

/-- Two's complement: the numbers from half the range on stand for the negative ones. -/
theorem getInt_putInt {w : Nat} {z : Int} (hw : 0 < w) (h : fitsInt w z) : ReadsBack (getInt w) (putInt w z) z := by
  intro rest
  obtain ⟨v, rfl⟩ : ∃ v, w = v + 1 := ⟨w - 1, by omega⟩
  obtain ⟨hlow, hhigh⟩ := h
  obtain ⟨m, hm⟩ : ∃ m : Nat, 256 ^ v = m := ⟨_, rfl⟩
  have hint : (256 : Int) ^ v = m := by rw [← hm]; push_cast; rfl
  have hpow : (256 : Nat) ^ (v + 1) = 256 * m := by rw [pow_succ, hm, Nat.mul_comm]
  simp only [Nat.add_sub_cancel, hint] at hlow hhigh
  have hmod : (z % (256 * m : Nat)).toNat = if 0 ≤ z then z.toNat else (z + (256 * m : Nat)).toNat := by
    split
    · rw [Int.emod_eq_of_lt] <;> omega
    · rw [← Int.add_emod_right, Int.emod_eq_of_lt] <;> omega
  have hfits : fitsNat (v + 1) (z % (256 * m : Nat)).toNat := by
    rw [hmod, fitsNat, hpow]
    split <;> omega
  rw [getInt, putInt, hpow, getNat_putNat hfits rest, hmod]
  simp only [Nat.add_sub_cancel, hm, Option.some.injEq, Prod.mk.injEq, and_true]
  split <;> split <;> omega

/-- A count or an index below 256 fits its byte. -/
theorem toNat_count {n : Nat} (h : n < 256) : (BitVec.ofNat 8 n).toNat = n := by
  rw [BitVec.toNat_ofNat]
  omega

@[simp] theorem length_putEnum [DecidableEq α] (names : List α) (a : α) : (putEnum names a).length = 1 := rfl

theorem getEnum_putEnum [DecidableEq α] {names : List α} {a : α} (hmem : a ∈ names) (hlen : names.length ≤ 256) :
    ReadsBack (getEnum names) (putEnum names a) a := by
  intro rest
  have hidx : names.idxOf a < names.length := List.idxOf_lt_length_of_mem hmem
  simp [getEnum, putEnum, toNat_count (hidx.trans_le hlen), hidx]

@[simp] theorem length_putFlag (b : Bool) : (putFlag b).length = 1 := rfl

theorem getFlag_putFlag (b : Bool) : ReadsBack getFlag (putFlag b) b := by
  cases b <;> exact fun _ => rfl

@[simp] theorem length_putText (t : Text) : (putText t).length = t.length + 1 := rfl

theorem getText_putText {t : Text} (h : fitsText t) : ReadsBack getText (putText t) t := by
  intro rest
  simp [getText, putText, toNat_count h]

@[simp] theorem length_putOption_putText (o : Option Text) : (putOption putText o).length = optionalTextBytes o := by
  cases o with
  | none => rfl
  | some t =>
    rw [putOption, List.length_cons, length_putText, optionalTextBytes]
    omega

theorem getOption_putOption {get : Reader α} {put : α → List Byte} {o : Option α}
    (h : ∀ a ∈ o, ReadsBack get (put a) a) : ReadsBack (getOption get) (putOption put o) o := by
  intro rest
  cases o with
  | none => rfl
  | some a => simp [getOption, putOption, h a rfl rest]

theorem getMany_flatMap {get : Reader α} {put : α → List Byte} {l : List α} (h : ∀ a ∈ l, ReadsBack get (put a) a) :
    ReadsBack (getMany get l.length) (l.flatMap put) l := by
  induction l with
  | nil => exact fun _ => rfl
  | cons a l ih =>
    intro rest
    have hl := ih fun b hb => h b (List.mem_cons_of_mem a hb)
    simp [getMany, h a List.mem_cons_self _, hl rest]

theorem getList_putList {get : Reader α} {put : α → List Byte} {l : List α} (hlen : l.length < 256)
    (h : ∀ a ∈ l, ReadsBack get (put a) a) : ReadsBack (getList get) (putList put l) l := by
  intro rest
  simp only [putList, List.cons_append, getList, toNat_count hlen]
  exact getMany_flatMap h rest

theorem length_putList (put : α → List Byte) (l : List α) :
    (putList put l).length = 1 + (l.map fun a => (put a).length).sum := by
  rw [putList, List.length_cons, List.length_flatMap, Nat.add_comm]

end
end Sys2Proof
end

section
/-! SUPPORT. The payload of each request is read back by the reader of its kind, and every request from its own frame (R195,
R202). -/

namespace Sys2Proof

/-! ### Enumerated values, patterns, settings, pieces -/

theorem mem_preferenceNames (x : Preference) : x ∈ preferenceNames := by cases x <;> decide
theorem mem_sequenceNames (x : Sequence) : x ∈ sequenceNames := by cases x <;> decide
theorem mem_backNames (x : BackType) : x ∈ backNames := by cases x <;> decide
theorem mem_roundingNames (x : Rounding) : x ∈ roundingNames := by cases x <;> decide
theorem mem_edgeNames (x : Edge) : x ∈ edgeNames := by cases x <;> decide
theorem mem_cullNames (x : CullAction) : x ∈ cullNames := by cases x <;> decide
theorem mem_labelFieldNames (x : LabelField) : x ∈ labelFieldNames := by cases x <;> decide

theorem getBracket_putBracket {b : Bracket} (h : b.fits) : ReadsBack getBracket (putBracket b) b := by
  obtain ⟨hcount, hstep⟩ := h
  intro rest
  simp [getBracket, putBracket, getNat_putNat hcount _, getNat_putNat hstep _,
    getEnum_putEnum (mem_sequenceNames b.sequence) (by decide) _]

/-- A reader goes on behind the field that it has read. -/
theorem bind_of_some {α β : Type} {o : Option α} {a : α} {k : α → Option β} {r : Option β} (h : o = some a)
    (hk : k a = r) : (o >>= k) = r := by
  rw [h]
  exact hk

theorem getSettings_putSettings {x : Settings} (h : x.fits) : ReadsBack getSettings (putSettings x) x := by
  obtain ⟨hcalibration, hmagnification, h1, h2, h3, h4⟩ := h
  intro rest
  simp only [putSettings, List.append_assoc]
  exact bind_of_some (getEnum_putEnum (mem_backNames x.back) (by decide) _) <|
    bind_of_some (getInt_putInt Nat.one_pos hcalibration _) <|
    bind_of_some (getNat_putNat hmagnification _) <|
    bind_of_some (getNat_putNat h1 _) <| bind_of_some (getNat_putNat h2 _) <|
    bind_of_some (getNat_putNat h3 _) <| bind_of_some (getNat_putNat h4 _) <|
    bind_of_some (getEnum_putEnum (mem_roundingNames x.rounding) (by decide) _) <|
    bind_of_some (getFlag_putFlag x.separator _) <| bind_of_some (getFlag_putFlag x.footEnabled _) <|
    bind_of_some (getEnum_putEnum (mem_edgeNames x.footEdge) (by decide) _) <|
    bind_of_some (getFlag_putFlag x.early _) rfl

theorem getPiece_putPiece {p : Piece} (h : p.fits = true) : ReadsBack getPiece (putPiece p) p := by
  intro rest
  cases p with
  | literal t => simp [getPiece, putPiece, getText_putText (of_decide_eq_true h) rest]
  | field f => simp [getPiece, putPiece, getEnum_putEnum (mem_labelFieldNames f) (by decide) rest]

theorem length_putPiece (p : Piece) : (putPiece p).length = p.bytes := by
  cases p with
  | literal t =>
    rw [putPiece, List.length_cons, length_putText, Piece.bytes]
    omega
  | field => rfl

/-! ### The payloads -/

/-- The bytes fit the payload of a frame, and the reader takes the fields from them. -/
structure Carries {α : Type} (get : Reader α) (bs : List Byte) (a : α) : Prop where
  length : bs.length ≤ 248
  reads : ReadsBack get bs a

theorem carries_nothing : Carries getNothing [] () := ⟨Nat.zero_le _, fun _ => rfl⟩

theorem carries_orderOpen {f : OrderOpenReq} (h : f.fits) : Carries getOrderOpen (putOrderOpen f) f := by
  obtain ⟨horder, haccount, hcls, hstock, hbracket, htemplate, hlecturer, hcarried⟩ := h
  constructor
  · simp only [putOrderOpen, putBracket, List.length_append, length_putNat, length_putEnum, length_putText]
    omega
  · intro rest
    simp [getOrderOpen, putOrderOpen, getNat_putNat horder _, getNat_putNat haccount _, getNat_putNat hcls _,
      getEnum_putEnum (mem_preferenceNames f.preference) (by decide) _, getNat_putNat hstock _,
      getBracket_putBracket hbracket _, getNat_putNat htemplate _, getText_putText hlecturer _]

theorem carries_itemAdd {f : ItemAddReq} (h : f.fits) : Carries getItemAdd (putItemAdd f) f := by
  obtain ⟨horder, hoffset, hfilter, hcopies, hcall, htitle, hnote, hcarried⟩ := h
  constructor
  · simp only [putItemAdd, List.length_append, length_putNat, length_putInt, length_putText, length_putOption_putText]
    omega
  · intro rest
    simp [getItemAdd, putItemAdd, getNat_putNat horder _, getInt_putInt Nat.two_pos hoffset _,
      getNat_putNat hfilter _, getNat_putNat hcopies _, getText_putText hcall _,
      getOption_putOption (fun t ht => getText_putText (htitle t ht)) _,
      getOption_putOption (fun t ht => getText_putText (hnote t ht)) _]

theorem carries_orderReq {f : OrderReq} (h : fitsNat 2 f.order) : Carries getOrderReq (putNat 2 f.order) f :=
  ⟨by simp, fun rest => by simp [getOrderReq, getNat_putNat h rest]⟩

theorem carries_orderPriority {f : OrderPriorityReq} (h : fitsNat 2 f.order ∧ fitsNat 1 f.cls) :
    Carries getOrderPriority (putNat 2 f.order ++ putNat 1 f.cls) f :=
  ⟨by simp, fun rest => by simp [getOrderPriority, getNat_putNat h.1 _, getNat_putNat h.2 _]⟩

theorem carries_itemReq {f : ItemReq} (h : fitsNat 2 f.order ∧ fitsNat 1 f.item) :
    Carries getItemReq (putNat 2 f.order ++ putNat 1 f.item) f :=
  ⟨by simp, fun rest => by simp [getItemReq, getNat_putNat h.1 _, getNat_putNat h.2 _]⟩

theorem carries_stationSet {f : StationSetReq} (h : fitsNat 1 f.station ∧ f.settings.fits) :
    Carries getStationSet (putNat 1 f.station ++ putSettings f.settings) f :=
  ⟨by simp [putSettings], fun rest => by
    simp [getStationSet, getNat_putNat h.1 _, getSettings_putSettings h.2 _]⟩

theorem carries_stationReq {f : StationReq} (h : fitsNat 1 f.station) :
    Carries getStationReq (putNat 1 f.station) f :=
  ⟨by simp, fun rest => by simp [getStationReq, getNat_putNat h rest]⟩

theorem carries_stockSet {f : StockSetReq}
    (h : fitsNat 1 f.code ∧ fitsInt 1 f.speed ∧ fitsText f.name ∧ carried (4 + f.name.length)) :
    Carries getStockSet (putNat 1 f.code ++ putFlag false ++ putInt 1 f.speed ++ putText f.name) f := by
  obtain ⟨hcode, hspeed, hname, hcarried⟩ := h
  constructor
  · simp only [List.length_append, length_putNat, length_putFlag, length_putInt, length_putText]
    omega
  · intro rest
    simp [getStockSet, getNat_putNat hcode _, getFlag_putFlag false _, getInt_putInt Nat.one_pos hspeed _,
      getText_putText hname _]

theorem carries_stockRemove {f : StockReq} (h : fitsNat 1 f.code) :
    Carries getStockRemove (putNat 1 f.code ++ putFlag true) f :=
  ⟨by simp, fun rest => by simp [getStockRemove, getNat_putNat h _, getFlag_putFlag true _]⟩

/-- With the REMOVE flag clear the payload is that of no removal (R93). -/
theorem getStockRemove_clear {code : Nat} (h : fitsNat 1 code) (rest : List Byte) :
    getStockRemove (putNat 1 code ++ (putFlag false ++ rest)) = none := by
  simp [getStockRemove, getNat_putNat h _, getFlag_putFlag false _]

theorem carries_load {f : LoadReq} (h : fitsNat 1 f.station ∧ fitsNat 1 f.stock) :
    Carries getLoad (putNat 1 f.station ++ putNat 1 f.stock) f :=
  ⟨by simp, fun rest => by simp [getLoad, getNat_putNat h.1 _, getNat_putNat h.2 _]⟩

theorem carries_frameRead {f : FrameReadReq} (h : fitsNat 2 f.roll ∧ fitsNat 1 f.first ∧ fitsNat 1 f.count) :
    Carries getFrameRead (putNat 2 f.roll ++ putNat 1 f.first ++ putNat 1 f.count) f := by
  obtain ⟨hroll, hfirst, hcount⟩ := h
  exact ⟨by simp, fun rest => by
    simp [getFrameRead, getNat_putNat hroll _, getNat_putNat hfirst _, getNat_putNat hcount _]⟩

theorem carries_cull {f : CullReq} (h : fitsNat 2 f.roll ∧ fitsNat 1 f.first ∧ carried (4 + f.actions.length)) :
    Carries getCull (putNat 2 f.roll ++ putNat 1 f.first ++ putList (putEnum cullNames) f.actions) f := by
  obtain ⟨hroll, hfirst, hcarried⟩ := h
  constructor
  · simp only [List.length_append, length_putNat, length_putList, length_putEnum, List.map_const', List.sum_replicate,
      smul_eq_mul, Nat.mul_one]
    omega
  · have hactions : ReadsBack (getList (getEnum cullNames)) (putList (putEnum cullNames) f.actions) f.actions :=
      getList_putList (by omega) fun x _ => getEnum_putEnum (mem_cullNames x) (by decide)
    intro rest
    simp [getCull, getNat_putNat hroll _, getNat_putNat hfirst _, hactions _]

theorem carries_closeRoll {f : CloseRollReq} (h : fitsNat 2 f.roll) :
    Carries getCloseRoll (putNat 2 f.roll ++ putFlag f.force) f :=
  ⟨by simp, fun rest => by simp [getCloseRoll, getNat_putNat h _, getFlag_putFlag f.force _]⟩

theorem carries_tariffSet {f : TariffSetReq}
    (h : fitsNat 1 f.cls ∧ fitsNat 2 f.centre ∧ fitsNat 2 f.bracket ∧ fitsNat 2 f.copy ∧ fitsNat 2 f.mount) :
    Carries getTariffSet
      (putNat 1 f.cls ++ putNat 2 f.centre ++ putNat 2 f.bracket ++ putNat 2 f.copy ++ putNat 2 f.mount) f := by
  obtain ⟨hcls, hcentre, hbracket, hcopy, hmount⟩ := h
  exact ⟨by simp, fun rest => by
    simp [getTariffSet, getNat_putNat hcls _, getNat_putNat hcentre _, getNat_putNat hbracket _, getNat_putNat hcopy _,
      getNat_putNat hmount _]⟩

theorem carries_accountSet {f : AccountSetReq}
    (h : fitsNat 1 f.slot ∧ fitsText f.name ∧ fitsNat 1 f.cls ∧ fitsNat 4 f.limit ∧ carried (7 + f.name.length)) :
    Carries getAccountSet (putNat 1 f.slot ++ putText f.name ++ putNat 1 f.cls ++ putNat 4 f.limit) f := by
  obtain ⟨hslot, hname, hcls, hlimit, hcarried⟩ := h
  constructor
  · simp only [List.length_append, length_putNat, length_putText]
    omega
  · intro rest
    simp [getAccountSet, getNat_putNat hslot _, getText_putText hname _, getNat_putNat hcls _, getNat_putNat hlimit _]

theorem carries_accountReq {f : AccountReq} (h : fitsNat 1 f.slot) : Carries getAccountReq (putNat 1 f.slot) f :=
  ⟨by simp, fun rest => by simp [getAccountReq, getNat_putNat h rest]⟩

theorem carries_adjust {f : AdjustReq} (h : fitsNat 1 f.slot ∧ fitsInt 3 f.amount) :
    Carries getAdjust (putNat 1 f.slot ++ putInt 3 f.amount) f :=
  ⟨by simp, fun rest => by simp [getAdjust, getNat_putNat h.1 _, getInt_putInt (by decide : 0 < 3) h.2 _]⟩

theorem carries_journalRead {f : JournalReadReq} (h : fitsNat 1 f.count) : Carries getJournalRead (putNat 1 f.count) f :=
  ⟨by simp, fun rest => by simp [getJournalRead, getNat_putNat h rest]⟩

theorem carries_journalRelease {f : JournalReleaseReq} (h : fitsNat 4 f.number) :
    Carries getJournalRelease (putNat 4 f.number) f :=
  ⟨by simp, fun rest => by simp [getJournalRelease, getNat_putNat h rest]⟩

theorem carries_clockSet {f : ClockSetReq} (h : fitsNat 4 f.value) : Carries getClockSet (putNat 4 f.value) f :=
  ⟨by simp, fun rest => by simp [getClockSet, getNat_putNat h rest]⟩

theorem carries_rollReq {f : RollReq} (h : fitsNat 2 f.roll) : Carries getRollReq (putNat 2 f.roll) f :=
  ⟨by simp, fun rest => by simp [getRollReq, getNat_putNat h rest]⟩

theorem carries_labelFrame {f : LabelFrameReq} (h : fitsNat 2 f.roll ∧ fitsNat 1 f.frame) :
    Carries getLabelFrame (putNat 2 f.roll ++ putNat 1 f.frame ++ putFlag f.charge) f :=
  ⟨by simp, fun rest => by
    simp [getLabelFrame, getNat_putNat h.1 _, getNat_putNat h.2 _, getFlag_putFlag f.charge _]⟩

theorem carries_labelRead {f : LabelReadReq} (h : fitsNat 1 f.first ∧ fitsNat 1 f.count) :
    Carries getLabelRead (putNat 1 f.first ++ putNat 1 f.count) f :=
  ⟨by simp, fun rest => by simp [getLabelRead, getNat_putNat h.1 _, getNat_putNat h.2 _]⟩

theorem length_putLines (f : TemplateLoadReq) :
    (putNat 1 f.template ++ putList (putList putPiece) f.lines).length = f.bytes := by
  simp only [List.length_append, length_putNat, length_putList, length_putPiece, TemplateLoadReq.bytes]
  exact (Nat.add_assoc 1 1 _).symm

theorem carries_templateLoad {f : TemplateLoadReq} (h : f.fits) :
    Carries getTemplateLoad (putNat 1 f.template ++ putList (putList putPiece) f.lines) f := by
  obtain ⟨htemplate, hcount, hlines, hcarried⟩ := h
  have hread : ReadsBack (getList (getList getPiece)) (putList (putList putPiece) f.lines) f.lines :=
    getList_putList hcount fun l hl => by
      obtain ⟨hpieces, hfits⟩ := hlines l hl
      exact getList_putList hpieces fun p hp => getPiece_putPiece (hfits p hp)
  exact ⟨(length_putLines f).trans_le hcarried, fun rest => by
    simp [getTemplateLoad, getNat_putNat htemplate _, hread _]⟩

theorem carries_templateReq {f : TemplateReq} (h : fitsNat 1 f.template) :
    Carries getTemplateReq (putNat 1 f.template) f :=
  ⟨by simp, fun rest => by simp [getTemplateReq, getNat_putNat h rest]⟩

theorem carries_printerSet {f : PrinterSetReq} (h : fitsNat 1 f.window) :
    Carries getPrinterSet (putFlag f.enable ++ putNat 1 f.window) f :=
  ⟨by simp, fun rest => by simp [getPrinterSet, getFlag_putFlag f.enable _, getNat_putNat h _]⟩

theorem carries_printerStatus (f : PrinterStatusReq) : Carries getPrinterStatus (putFlag f.ask) f :=
  ⟨by simp, fun rest => by simp [getPrinterStatus, getFlag_putFlag f.ask rest]⟩

theorem carries_unitReq {f : UnitReq} (h : fitsNat 1 f.unit) : Carries getUnitReq (putNat 1 f.unit) f :=
  ⟨by simp, fun rest => by simp [getUnitReq, getNat_putNat h rest]⟩

/-! PLAN_QUERY: the fields that stand behind the byte of the form. -/

theorem readsBack_planDirect {f : PlanDirectReq} (h : fitsInt 1 f.calibration ∧ fitsInt 1 f.subject ∧ fitsInt 1 f.speed ∧
    fitsNat 1 f.filter ∧ fitsNat 2 f.magnification ∧ fitsInt 1 f.offset) :
    ReadsBack getPlanDirect (putPlanDirect f) f := by
  obtain ⟨hcalibration, hsubject, hspeed, hfilter, hmagnification, hoffset⟩ := h
  intro rest
  simp [getPlanDirect, putPlanDirect, getInt_putInt Nat.one_pos hcalibration _, getInt_putInt Nat.one_pos hsubject _,
    getInt_putInt Nat.one_pos hspeed _, getNat_putNat hfilter _, getNat_putNat hmagnification _,
    getInt_putInt Nat.one_pos hoffset _, getEnum_putEnum (mem_roundingNames f.rounding) (by decide) _]

theorem readsBack_planStation {f : PlanStationReq} (h : fitsNat 1 f.station ∧ fitsNat 1 f.stock ∧ fitsNat 1 f.filter ∧
    fitsInt 1 f.subject ∧ fitsInt 1 f.offset) : ReadsBack getPlanStation (putPlanStation f) f := by
  obtain ⟨hstation, hstock, hfilter, hsubject, hoffset⟩ := h
  intro rest
  simp [getPlanStation, putPlanStation, getNat_putNat hstation _, getNat_putNat hstock _, getNat_putNat hfilter _,
    getInt_putInt Nat.one_pos hsubject _, getInt_putInt Nat.one_pos hoffset _]

theorem readsBack_planItem {f : PlanItemReq} (h : fitsNat 1 f.station ∧ fitsNat 2 f.order ∧ fitsNat 1 f.item) :
    ReadsBack getPlanItem (putNat 1 f.station ++ putNat 2 f.order ++ putNat 1 f.item) f := by
  obtain ⟨hstation, horder, hitem⟩ := h
  intro rest
  simp [getPlanItem, getNat_putNat hstation _, getNat_putNat horder _, getNat_putNat hitem _]

/-! ### Every request -/

section

variable {α : Type} {kind : RequestKind} {tag : Byte} {fr : RequestFrame}

theorem readWhole_of_readsBack {get : Reader α} {bs : List Byte} {a : α} (h : ReadsBack get bs a) :
    readWhole get bs = .fields a := by
  have hall := h []
  rw [List.append_nil] at hall
  rw [readWhole, hall]

/-- A payload fits a frame of its kind, and the frame spells the command of the fields. -/
def Spells (kind : RequestKind) (tag : Byte) (bs : List Byte) (c : Instr) : Prop :=
  bs.length ≤ 248 ∧ decodeRequest kind.code tag bs = c

/-- Where the payload of a kind is read by one reader. -/
theorem Carries.spells {get : Reader α} {bs : List Byte} {a : α} (h : Carries get bs a) {mk : Payload α → Instr}
    (hkind : decodeRequest kind.code tag bs = mk (readWhole get bs)) : Spells kind tag bs (mk (.fields a)) :=
  ⟨h.length, hkind.trans (by rw [readWhole_of_readsBack h.reads])⟩

variable {p : Payload α} {put : α → List Byte} {mk : Payload α → Instr}

/-- A malformed payload has no encoding, so an encoded request has its fields. -/
theorem frame_readsBack (hf : p.frame kind tag put = some fr)
    (h : ∀ a, p = .fields a → Spells kind tag (put a) (mk (.fields a))) :
    fr.payload.length ≤ 248 ∧ decodeRequest fr.kind fr.tag fr.payload = mk p := by
  cases p with
  | malformed => cases hf
  | fields a => cases hf; exact h a rfl

/-- A well-formed request, from what the frame of its fields spells. -/
theorem spelled_readsBack {tagOk : Bool} {ok : α → Prop} {dec : DecidablePred ok} (hf : p.frame kind tag put = some fr)
    (hw : (tagOk && p.all fun a => decide (ok a)) = true)
    (h : ∀ {a}, ok a → Spells kind tag (put a) (mk (.fields a))) :
    fr.payload.length ≤ 248 ∧ decodeRequest fr.kind fr.tag fr.payload = mk p :=
  frame_readsBack hf fun a ha => by
    rw [ha, Bool.and_eq_true_iff] at hw
    exact h (of_decide_eq_true hw.2)

/-- A well-formed request of a kind whose payload is read by one reader. -/
theorem carried_readsBack {tagOk : Bool} {ok : α → Prop} {dec : DecidablePred ok} {get : Reader α}
    (hf : p.frame kind tag put = some fr) (hw : (tagOk && p.all fun a => decide (ok a)) = true)
    (hc : ∀ {a}, ok a → Carries get (put a) a)
    (hkind : ∀ a, decodeRequest kind.code tag (put a) = mk (readWhole get (put a))) :
    fr.payload.length ≤ 248 ∧ decodeRequest fr.kind fr.tag fr.payload = mk p :=
  spelled_readsBack hf hw fun ha => (hc ha).spells (hkind _)

end

theorem spells_stockSet {tag : Byte} {f : StockSetReq}
    (h : fitsNat 1 f.code ∧ fitsInt 1 f.speed ∧ fitsText f.name ∧ carried (4 + f.name.length)) :
    Spells .stockSet tag (putNat 1 f.code ++ putFlag false ++ putInt 1 f.speed ++ putText f.name)
      (.stockSet tag (.fields f)) := by
  have hcarries := carries_stockSet h
  refine ⟨hcarries.length, ?_⟩
  have hremove : readWhole getStockRemove
      (putNat 1 f.code ++ putFlag false ++ putInt 1 f.speed ++ putText f.name) = .malformed := by
    simp only [readWhole, List.append_assoc, getStockRemove_clear h.1]
  simp [-List.append_assoc, decodeRequest, RequestKind.code, hremove, readWhole_of_readsBack hcarries.reads]

theorem spells_stockRemove {tag : Byte} {f : StockReq} (h : fitsNat 1 f.code) :
    Spells .stockSet tag (putNat 1 f.code ++ putFlag true) (.stockSetRemove tag (.fields f)) := by
  have hcarries := carries_stockRemove h
  refine ⟨hcarries.length, ?_⟩
  simp [decodeRequest, RequestKind.code, readWhole_of_readsBack hcarries.reads]

theorem decodeRequest_unknownKind {kind : Byte} (h : kind = 0 ∨ 53 < kind.toNat) (tag : Byte) (payload : List Byte) :
    decodeRequest kind tag payload = .unknownKind tag kind := by
  have hrange : kind.toNat = 0 ∨ 53 < kind.toNat := h.imp_left fun h => by rw [h]; rfl
  unfold decodeRequest
  split
  case h_54 => rfl
  all_goals omega

theorem spells_planDirect {tag : Byte} {f : PlanDirectReq} (h : fitsInt 1 f.calibration ∧ fitsInt 1 f.subject ∧
    fitsInt 1 f.speed ∧ fitsNat 1 f.filter ∧ fitsNat 2 f.magnification ∧ fitsInt 1 f.offset) :
    Spells .planQuery tag (0 :: putPlanDirect f) (.planQueryDirect tag (.fields f)) :=
  ⟨by simp [putPlanDirect], congrArg (Instr.planQueryDirect tag) (readWhole_of_readsBack (readsBack_planDirect h))⟩

theorem spells_planStation {tag : Byte} {f : PlanStationReq} (h : fitsNat 1 f.station ∧ fitsNat 1 f.stock ∧
    fitsNat 1 f.filter ∧ fitsInt 1 f.subject ∧ fitsInt 1 f.offset) :
    Spells .planQuery tag (1 :: putPlanStation f) (.planQueryStation tag (.fields f)) :=
  ⟨by simp [putPlanStation], congrArg (Instr.planQueryStation tag) (readWhole_of_readsBack (readsBack_planStation h))⟩

theorem spells_planItem {tag : Byte} {f : PlanItemReq} (h : fitsNat 1 f.station ∧ fitsNat 2 f.order ∧ fitsNat 1 f.item) :
    Spells .planQuery tag (2 :: (putNat 1 f.station ++ putNat 2 f.order ++ putNat 1 f.item))
      (.planQueryItem tag (.fields f)) :=
  ⟨by simp, congrArg (Instr.planQueryItem tag) (readWhole_of_readsBack (readsBack_planItem h))⟩

/-- Settles O9: for each request its payload's reader, and UNKNOWN_KIND by its kind; the other commands have no encoding. -/
theorem requestEncodingReadsBack : Obligations.RequestEncodingReadsBack := by
  intro c fr hw hf
  cases c with
  | orderOpen t p => exact carried_readsBack hf hw carries_orderOpen fun _ => rfl
  | itemAdd t p => exact carried_readsBack hf hw carries_itemAdd fun _ => rfl
  | orderSubmit t p => exact carried_readsBack hf hw carries_orderReq fun _ => rfl
  | hold t p => exact carried_readsBack hf hw carries_orderReq fun _ => rfl
  | release t p => exact carried_readsBack hf hw carries_orderReq fun _ => rfl
  | orderPriority t p => exact carried_readsBack hf hw carries_orderPriority fun _ => rfl
  | orderCancel t p => exact carried_readsBack hf hw carries_orderReq fun _ => rfl
  | orderRead t p => exact carried_readsBack hf hw carries_orderReq fun _ => rfl
  | itemRead t p => exact carried_readsBack hf hw carries_itemReq fun _ => rfl
  | stationSet t p => exact carried_readsBack hf hw carries_stationSet fun _ => rfl
  | stationRead t p => exact carried_readsBack hf hw carries_stationReq fun _ => rfl
  | placed t p => exact carried_readsBack hf hw carries_stationReq fun _ => rfl
  | inputTake t p => exact carried_readsBack hf hw carries_stationReq fun _ => rfl
  | skipItem t p => exact carried_readsBack hf hw carries_stationReq fun _ => rfl
  | abort t p => exact carried_readsBack hf hw carries_stationReq fun _ => rfl
  | planQueryDirect t p => exact spelled_readsBack hf hw spells_planDirect
  | planQueryStation t p => exact spelled_readsBack hf hw spells_planStation
  | planQueryItem t p => exact spelled_readsBack hf hw spells_planItem
  | genRead t p => exact frame_readsBack hf fun _ _ => carries_nothing.spells rfl
  | genClear t p => exact frame_readsBack hf fun _ _ => carries_nothing.spells rfl
  | stockSet t p => exact spelled_readsBack hf hw spells_stockSet
  | stockSetRemove t p => exact spelled_readsBack hf hw spells_stockRemove
  | stockRead t p => exact frame_readsBack hf fun _ _ => carries_nothing.spells rfl
  | load t p => exact carried_readsBack hf hw carries_load fun _ => rfl
  | unloadEarly t p => exact carried_readsBack hf hw carries_stationReq fun _ => rfl
  | frameRead t p => exact carried_readsBack hf hw carries_frameRead fun _ => rfl
  | cull t p => exact carried_readsBack hf hw carries_cull fun _ => rfl
  | closeRoll t p => exact carried_readsBack hf hw carries_closeRoll fun _ => rfl
  | confirmRoll t p => exact carried_readsBack hf hw carries_stationReq fun _ => rfl
  | declareUnloaded t p => exact carried_readsBack hf hw carries_stationReq fun _ => rfl
  | tariffSet t p => exact carried_readsBack hf hw carries_tariffSet fun _ => rfl
  | tariffRead t p => exact frame_readsBack hf fun _ _ => carries_nothing.spells rfl
  | accountSet t p => exact carried_readsBack hf hw carries_accountSet fun _ => rfl
  | accountClear t p => exact carried_readsBack hf hw carries_accountReq fun _ => rfl
  | accountRead t p => exact carried_readsBack hf hw carries_accountReq fun _ => rfl
  | adjust t p => exact carried_readsBack hf hw carries_adjust fun _ => rfl
  | journalRead t p => exact carried_readsBack hf hw carries_journalRead fun _ => rfl
  | journalRelease t p => exact carried_readsBack hf hw carries_journalRelease fun _ => rfl
  | clockSet t p => exact carried_readsBack hf hw carries_clockSet fun _ => rfl
  | clockRead t p => exact frame_readsBack hf fun _ _ => carries_nothing.spells rfl
  | labelRoll t p => exact carried_readsBack hf hw carries_rollReq fun _ => rfl
  | labelFrame t p => exact carried_readsBack hf hw carries_labelFrame fun _ => rfl
  | labelCancel t p => exact carried_readsBack hf hw carries_rollReq fun _ => rfl
  | labelRead t p => exact carried_readsBack hf hw carries_labelRead fun _ => rfl
  | templateLoad t p => exact carried_readsBack hf hw carries_templateLoad fun _ => rfl
  | templateLock t p => exact carried_readsBack hf hw carries_templateReq fun _ => rfl
  | templateUnlock t p => exact carried_readsBack hf hw carries_templateReq fun _ => rfl
  | templateDrop t p => exact carried_readsBack hf hw carries_templateReq fun _ => rfl
  | templateRead t p => exact carried_readsBack hf hw carries_templateReq fun _ => rfl
  | printerSet t p => exact carried_readsBack hf hw carries_printerSet fun _ => rfl
  | printerStatus t p => exact frame_readsBack hf fun f _ => (carries_printerStatus f).spells rfl
  | faultRead t p => exact carried_readsBack hf hw carries_unitReq fun _ => rfl
  | faultClear t p => exact carried_readsBack hf hw carries_unitReq fun _ => rfl
  | ident t p => exact frame_readsBack hf fun _ _ => carries_nothing.spells rfl
  | status t p => exact frame_readsBack hf fun _ _ => carries_nothing.spells rfl
  | standReset t p => exact frame_readsBack hf fun _ _ => carries_nothing.spells rfl
  | unknownKind t kind =>
    cases hf
    exact ⟨Nat.zero_le _, decodeRequest_unknownKind (of_decide_eq_true (Bool.and_eq_true_iff.mp hw).2) t []⟩
  | _ => cases hf

end Sys2Proof
end

section
/-! SUPPORT. One step of the part: the command at the front of the queue, the idle step, and that no command has the part
stop. -/

namespace Sys2Proof.Machine

theorem step_cons (c : Instr) (s : State) (rest : List Instr) :
    step { s with pending := c :: rest } = exec c { s with pending := rest } := rfl

/-- With none waiting the part idles (log entry 11). -/
theorem step_of_pending_nil {s : State} (h : s.pending = []) : step s = .next s := by
  rw [step, h]

/-- Every command is an event, and an event answers a next state. -/
theorem exec_completes (c : Instr) (s : State) : Completes c s := by
  obtain ⟨f, hf, -⟩ := exec_is_event c s
  exact ⟨_, hf⟩

/-- Settles O1: a step by whether the queue is empty, and `exec_completes` for the next state of every command. -/
theorem stepRunsFrontCommand : Obligations.StepRunsFrontCommand :=
  ⟨step_cons, fun _ => step_of_pending_nil, exec_completes⟩

end Sys2Proof.Machine
end
